-- ==== Sys2Proof/Word.lean ====
section
/-! DEFINITION. The two word types of the core (spec 00_scope.md R7, R9). -/

namespace Sys2Proof

/-- An 8-bit unsigned value: every register but PC, every bus datum, the opcode (R7, R9). -/
abbrev Byte := BitVec 8

/-- A 16-bit unsigned value: PC, every bus address (R7, R9). -/
abbrev Word := BitVec 16

end Sys2Proof
end

