-- ==== Sys2Proof/Syntax.lean ====
section
/-! DEFINITION. The instruction set as syntax: one constructor per row of the opcode table
(30_encoding.md R87; opcode_table.json), 151 in all. A constructor's operand is what the row's
addressing mode takes from the instruction stream (R82): a byte, a 16-bit address, or, in the Relative
mode, the signed displacement. The suffix names the mode: Imm, Zp, Zpx, Zpy, Abs, Abx, Aby, Ind, Izx
(IndexedIndirect), Izy (IndirectIndexed), Acc; Implied and Relative have none. -/

namespace Sys2Proof

inductive Instr where
  /-- 0x61 `ADC ($nn,X)` (R131). -/
  | adcIzx (b : Byte)
  /-- 0x65 `ADC $nn` (R131). -/
  | adcZp (b : Byte)
  /-- 0x69 `ADC #$nn` (R131). -/
  | adcImm (b : Byte)
  /-- 0x6D `ADC $hhll` (R131). -/
  | adcAbs (addr : Word)
  /-- 0x71 `ADC ($nn),Y` (R131). -/
  | adcIzy (b : Byte)
  /-- 0x75 `ADC $nn,X` (R131). -/
  | adcZpx (b : Byte)
  /-- 0x79 `ADC $hhll,Y` (R131). -/
  | adcAby (addr : Word)
  /-- 0x7D `ADC $hhll,X` (R131). -/
  | adcAbx (addr : Word)
  /-- 0xE1 `SBC ($nn,X)` (R132). -/
  | sbcIzx (b : Byte)
  /-- 0xE5 `SBC $nn` (R132). -/
  | sbcZp (b : Byte)
  /-- 0xE9 `SBC #$nn` (R132). -/
  | sbcImm (b : Byte)
  /-- 0xED `SBC $hhll` (R132). -/
  | sbcAbs (addr : Word)
  /-- 0xF1 `SBC ($nn),Y` (R132). -/
  | sbcIzy (b : Byte)
  /-- 0xF5 `SBC $nn,X` (R132). -/
  | sbcZpx (b : Byte)
  /-- 0xF9 `SBC $hhll,Y` (R132). -/
  | sbcAby (addr : Word)
  /-- 0xFD `SBC $hhll,X` (R132). -/
  | sbcAbx (addr : Word)
  /-- 0xE6 `INC $nn` (R133). -/
  | incZp (b : Byte)
  /-- 0xEE `INC $hhll` (R133). -/
  | incAbs (addr : Word)
  /-- 0xF6 `INC $nn,X` (R133). -/
  | incZpx (b : Byte)
  /-- 0xFE `INC $hhll,X` (R133). -/
  | incAbx (addr : Word)
  /-- 0xC6 `DEC $nn` (R134). -/
  | decZp (b : Byte)
  /-- 0xCE `DEC $hhll` (R134). -/
  | decAbs (addr : Word)
  /-- 0xD6 `DEC $nn,X` (R134). -/
  | decZpx (b : Byte)
  /-- 0xDE `DEC $hhll,X` (R134). -/
  | decAbx (addr : Word)
  /-- 0xE8 `INX` (R135). -/
  | inx
  /-- 0xC8 `INY` (R136). -/
  | iny
  /-- 0xCA `DEX` (R137). -/
  | dex
  /-- 0x88 `DEY` (R138). -/
  | dey
  /-- 0x21 `AND ($nn,X)` (R140). -/
  | andIzx (b : Byte)
  /-- 0x25 `AND $nn` (R140). -/
  | andZp (b : Byte)
  /-- 0x29 `AND #$nn` (R140). -/
  | andImm (b : Byte)
  /-- 0x2D `AND $hhll` (R140). -/
  | andAbs (addr : Word)
  /-- 0x31 `AND ($nn),Y` (R140). -/
  | andIzy (b : Byte)
  /-- 0x35 `AND $nn,X` (R140). -/
  | andZpx (b : Byte)
  /-- 0x39 `AND $hhll,Y` (R140). -/
  | andAby (addr : Word)
  /-- 0x3D `AND $hhll,X` (R140). -/
  | andAbx (addr : Word)
  /-- 0x01 `ORA ($nn,X)` (R141). -/
  | oraIzx (b : Byte)
  /-- 0x05 `ORA $nn` (R141). -/
  | oraZp (b : Byte)
  /-- 0x09 `ORA #$nn` (R141). -/
  | oraImm (b : Byte)
  /-- 0x0D `ORA $hhll` (R141). -/
  | oraAbs (addr : Word)
  /-- 0x11 `ORA ($nn),Y` (R141). -/
  | oraIzy (b : Byte)
  /-- 0x15 `ORA $nn,X` (R141). -/
  | oraZpx (b : Byte)
  /-- 0x19 `ORA $hhll,Y` (R141). -/
  | oraAby (addr : Word)
  /-- 0x1D `ORA $hhll,X` (R141). -/
  | oraAbx (addr : Word)
  /-- 0x41 `EOR ($nn,X)` (R142). -/
  | eorIzx (b : Byte)
  /-- 0x45 `EOR $nn` (R142). -/
  | eorZp (b : Byte)
  /-- 0x49 `EOR #$nn` (R142). -/
  | eorImm (b : Byte)
  /-- 0x4D `EOR $hhll` (R142). -/
  | eorAbs (addr : Word)
  /-- 0x51 `EOR ($nn),Y` (R142). -/
  | eorIzy (b : Byte)
  /-- 0x55 `EOR $nn,X` (R142). -/
  | eorZpx (b : Byte)
  /-- 0x59 `EOR $hhll,Y` (R142). -/
  | eorAby (addr : Word)
  /-- 0x5D `EOR $hhll,X` (R142). -/
  | eorAbx (addr : Word)
  /-- 0x24 `BIT $nn` (R143). -/
  | bitZp (b : Byte)
  /-- 0x2C `BIT $hhll` (R143). -/
  | bitAbs (addr : Word)
  /-- 0xC1 `CMP ($nn,X)` (R145). -/
  | cmpIzx (b : Byte)
  /-- 0xC5 `CMP $nn` (R145). -/
  | cmpZp (b : Byte)
  /-- 0xC9 `CMP #$nn` (R145). -/
  | cmpImm (b : Byte)
  /-- 0xCD `CMP $hhll` (R145). -/
  | cmpAbs (addr : Word)
  /-- 0xD1 `CMP ($nn),Y` (R145). -/
  | cmpIzy (b : Byte)
  /-- 0xD5 `CMP $nn,X` (R145). -/
  | cmpZpx (b : Byte)
  /-- 0xD9 `CMP $hhll,Y` (R145). -/
  | cmpAby (addr : Word)
  /-- 0xDD `CMP $hhll,X` (R145). -/
  | cmpAbx (addr : Word)
  /-- 0xE0 `CPX #$nn` (R146). -/
  | cpxImm (b : Byte)
  /-- 0xE4 `CPX $nn` (R146). -/
  | cpxZp (b : Byte)
  /-- 0xEC `CPX $hhll` (R146). -/
  | cpxAbs (addr : Word)
  /-- 0xC0 `CPY #$nn` (R147). -/
  | cpyImm (b : Byte)
  /-- 0xC4 `CPY $nn` (R147). -/
  | cpyZp (b : Byte)
  /-- 0xCC `CPY $hhll` (R147). -/
  | cpyAbs (addr : Word)
  /-- 0x06 `ASL $nn` (R151). -/
  | aslZp (b : Byte)
  /-- 0x0A `ASL A` (R151). -/
  | aslAcc
  /-- 0x0E `ASL $hhll` (R151). -/
  | aslAbs (addr : Word)
  /-- 0x16 `ASL $nn,X` (R151). -/
  | aslZpx (b : Byte)
  /-- 0x1E `ASL $hhll,X` (R151). -/
  | aslAbx (addr : Word)
  /-- 0x46 `LSR $nn` (R152). -/
  | lsrZp (b : Byte)
  /-- 0x4A `LSR A` (R152). -/
  | lsrAcc
  /-- 0x4E `LSR $hhll` (R152). -/
  | lsrAbs (addr : Word)
  /-- 0x56 `LSR $nn,X` (R152). -/
  | lsrZpx (b : Byte)
  /-- 0x5E `LSR $hhll,X` (R152). -/
  | lsrAbx (addr : Word)
  /-- 0x26 `ROL $nn` (R153). -/
  | rolZp (b : Byte)
  /-- 0x2A `ROL A` (R153). -/
  | rolAcc
  /-- 0x2E `ROL $hhll` (R153). -/
  | rolAbs (addr : Word)
  /-- 0x36 `ROL $nn,X` (R153). -/
  | rolZpx (b : Byte)
  /-- 0x3E `ROL $hhll,X` (R153). -/
  | rolAbx (addr : Word)
  /-- 0x66 `ROR $nn` (R154). -/
  | rorZp (b : Byte)
  /-- 0x6A `ROR A` (R154). -/
  | rorAcc
  /-- 0x6E `ROR $hhll` (R154). -/
  | rorAbs (addr : Word)
  /-- 0x76 `ROR $nn,X` (R154). -/
  | rorZpx (b : Byte)
  /-- 0x7E `ROR $hhll,X` (R154). -/
  | rorAbx (addr : Word)
  /-- 0x90 `BCC label` (R156). -/
  | bcc (d : Int)
  /-- 0xB0 `BCS label` (R157). -/
  | bcs (d : Int)
  /-- 0xF0 `BEQ label` (R158). -/
  | beq (d : Int)
  /-- 0x30 `BMI label` (R159). -/
  | bmi (d : Int)
  /-- 0xD0 `BNE label` (R160). -/
  | bne (d : Int)
  /-- 0x10 `BPL label` (R161). -/
  | bpl (d : Int)
  /-- 0x50 `BVC label` (R162). -/
  | bvc (d : Int)
  /-- 0x70 `BVS label` (R163). -/
  | bvs (d : Int)
  /-- 0xA1 `LDA ($nn,X)` (R165). -/
  | ldaIzx (b : Byte)
  /-- 0xA5 `LDA $nn` (R165). -/
  | ldaZp (b : Byte)
  /-- 0xA9 `LDA #$nn` (R165). -/
  | ldaImm (b : Byte)
  /-- 0xAD `LDA $hhll` (R165). -/
  | ldaAbs (addr : Word)
  /-- 0xB1 `LDA ($nn),Y` (R165). -/
  | ldaIzy (b : Byte)
  /-- 0xB5 `LDA $nn,X` (R165). -/
  | ldaZpx (b : Byte)
  /-- 0xB9 `LDA $hhll,Y` (R165). -/
  | ldaAby (addr : Word)
  /-- 0xBD `LDA $hhll,X` (R165). -/
  | ldaAbx (addr : Word)
  /-- 0xA2 `LDX #$nn` (R166). -/
  | ldxImm (b : Byte)
  /-- 0xA6 `LDX $nn` (R166). -/
  | ldxZp (b : Byte)
  /-- 0xAE `LDX $hhll` (R166). -/
  | ldxAbs (addr : Word)
  /-- 0xB6 `LDX $nn,Y` (R166). -/
  | ldxZpy (b : Byte)
  /-- 0xBE `LDX $hhll,Y` (R166). -/
  | ldxAby (addr : Word)
  /-- 0xA0 `LDY #$nn` (R167). -/
  | ldyImm (b : Byte)
  /-- 0xA4 `LDY $nn` (R167). -/
  | ldyZp (b : Byte)
  /-- 0xAC `LDY $hhll` (R167). -/
  | ldyAbs (addr : Word)
  /-- 0xB4 `LDY $nn,X` (R167). -/
  | ldyZpx (b : Byte)
  /-- 0xBC `LDY $hhll,X` (R167). -/
  | ldyAbx (addr : Word)
  /-- 0x81 `STA ($nn,X)` (R168). -/
  | staIzx (b : Byte)
  /-- 0x85 `STA $nn` (R168). -/
  | staZp (b : Byte)
  /-- 0x8D `STA $hhll` (R168). -/
  | staAbs (addr : Word)
  /-- 0x91 `STA ($nn),Y` (R168). -/
  | staIzy (b : Byte)
  /-- 0x95 `STA $nn,X` (R168). -/
  | staZpx (b : Byte)
  /-- 0x99 `STA $hhll,Y` (R168). -/
  | staAby (addr : Word)
  /-- 0x9D `STA $hhll,X` (R168). -/
  | staAbx (addr : Word)
  /-- 0x86 `STX $nn` (R169). -/
  | stxZp (b : Byte)
  /-- 0x8E `STX $hhll` (R169). -/
  | stxAbs (addr : Word)
  /-- 0x96 `STX $nn,Y` (R169). -/
  | stxZpy (b : Byte)
  /-- 0x84 `STY $nn` (R170). -/
  | styZp (b : Byte)
  /-- 0x8C `STY $hhll` (R170). -/
  | styAbs (addr : Word)
  /-- 0x94 `STY $nn,X` (R170). -/
  | styZpx (b : Byte)
  /-- 0xAA `TAX` (R171). -/
  | tax
  /-- 0xA8 `TAY` (R172). -/
  | tay
  /-- 0x8A `TXA` (R173). -/
  | txa
  /-- 0x98 `TYA` (R174). -/
  | tya
  /-- 0xBA `TSX` (R175). -/
  | tsx
  /-- 0x9A `TXS` (R176). -/
  | txs
  /-- 0x48 `PHA` (R181). -/
  | pha
  /-- 0x08 `PHP` (R182). -/
  | php
  /-- 0x68 `PLA` (R183). -/
  | pla
  /-- 0x28 `PLP` (R184). -/
  | plp
  /-- 0x4C `JMP $hhll` (R187). -/
  | jmpAbs (addr : Word)
  /-- 0x6C `JMP ($hhll)` (R187). -/
  | jmpInd (addr : Word)
  /-- 0x20 `JSR $hhll` (R188). -/
  | jsr (addr : Word)
  /-- 0x60 `RTS` (R189). -/
  | rts
  /-- 0x00 `BRK` (R191). -/
  | brk
  /-- 0x40 `RTI` (R192). -/
  | rti
  /-- 0x18 `CLC` (R195). -/
  | clc
  /-- 0x38 `SEC` (R196). -/
  | sec
  /-- 0x58 `CLI` (R197). -/
  | cli
  /-- 0x78 `SEI` (R198). -/
  | sei
  /-- 0xD8 `CLD` (R199). -/
  | cld
  /-- 0xF8 `SED` (R200). -/
  | sed
  /-- 0xB8 `CLV` (R201). -/
  | clv
  /-- 0xEA `NOP` (R202). -/
  | nop
  deriving DecidableEq, Repr

end Sys2Proof
end

