-- ==== Sys2Proof/WellFormed.lean ====
section
/-! DEFINITION. When an instruction is well formed. Byte and address operands are well formed by their
types; the one check is the Relative operand's range: a signed 8-bit displacement, -128..127
(30_encoding.md R82). -/

namespace Sys2Proof

/-- The displacements the Relative mode's operand byte can carry (30_encoding.md R82). -/
def displacementInRange (d : Int) : Bool := decide (-128 ≤ d) && decide (d ≤ 127)

/-- Every instruction is well formed but a branch whose displacement does not fit its byte. -/
def Instr.wellFormed : Instr → Bool
  | .adcIzx _ => true
  | .adcZp _ => true
  | .adcImm _ => true
  | .adcAbs _ => true
  | .adcIzy _ => true
  | .adcZpx _ => true
  | .adcAby _ => true
  | .adcAbx _ => true
  | .sbcIzx _ => true
  | .sbcZp _ => true
  | .sbcImm _ => true
  | .sbcAbs _ => true
  | .sbcIzy _ => true
  | .sbcZpx _ => true
  | .sbcAby _ => true
  | .sbcAbx _ => true
  | .incZp _ => true
  | .incAbs _ => true
  | .incZpx _ => true
  | .incAbx _ => true
  | .decZp _ => true
  | .decAbs _ => true
  | .decZpx _ => true
  | .decAbx _ => true
  | .inx => true
  | .iny => true
  | .dex => true
  | .dey => true
  | .andIzx _ => true
  | .andZp _ => true
  | .andImm _ => true
  | .andAbs _ => true
  | .andIzy _ => true
  | .andZpx _ => true
  | .andAby _ => true
  | .andAbx _ => true
  | .oraIzx _ => true
  | .oraZp _ => true
  | .oraImm _ => true
  | .oraAbs _ => true
  | .oraIzy _ => true
  | .oraZpx _ => true
  | .oraAby _ => true
  | .oraAbx _ => true
  | .eorIzx _ => true
  | .eorZp _ => true
  | .eorImm _ => true
  | .eorAbs _ => true
  | .eorIzy _ => true
  | .eorZpx _ => true
  | .eorAby _ => true
  | .eorAbx _ => true
  | .bitZp _ => true
  | .bitAbs _ => true
  | .cmpIzx _ => true
  | .cmpZp _ => true
  | .cmpImm _ => true
  | .cmpAbs _ => true
  | .cmpIzy _ => true
  | .cmpZpx _ => true
  | .cmpAby _ => true
  | .cmpAbx _ => true
  | .cpxImm _ => true
  | .cpxZp _ => true
  | .cpxAbs _ => true
  | .cpyImm _ => true
  | .cpyZp _ => true
  | .cpyAbs _ => true
  | .aslZp _ => true
  | .aslAcc => true
  | .aslAbs _ => true
  | .aslZpx _ => true
  | .aslAbx _ => true
  | .lsrZp _ => true
  | .lsrAcc => true
  | .lsrAbs _ => true
  | .lsrZpx _ => true
  | .lsrAbx _ => true
  | .rolZp _ => true
  | .rolAcc => true
  | .rolAbs _ => true
  | .rolZpx _ => true
  | .rolAbx _ => true
  | .rorZp _ => true
  | .rorAcc => true
  | .rorAbs _ => true
  | .rorZpx _ => true
  | .rorAbx _ => true
  | .bcc d => displacementInRange d
  | .bcs d => displacementInRange d
  | .beq d => displacementInRange d
  | .bmi d => displacementInRange d
  | .bne d => displacementInRange d
  | .bpl d => displacementInRange d
  | .bvc d => displacementInRange d
  | .bvs d => displacementInRange d
  | .ldaIzx _ => true
  | .ldaZp _ => true
  | .ldaImm _ => true
  | .ldaAbs _ => true
  | .ldaIzy _ => true
  | .ldaZpx _ => true
  | .ldaAby _ => true
  | .ldaAbx _ => true
  | .ldxImm _ => true
  | .ldxZp _ => true
  | .ldxAbs _ => true
  | .ldxZpy _ => true
  | .ldxAby _ => true
  | .ldyImm _ => true
  | .ldyZp _ => true
  | .ldyAbs _ => true
  | .ldyZpx _ => true
  | .ldyAbx _ => true
  | .staIzx _ => true
  | .staZp _ => true
  | .staAbs _ => true
  | .staIzy _ => true
  | .staZpx _ => true
  | .staAby _ => true
  | .staAbx _ => true
  | .stxZp _ => true
  | .stxAbs _ => true
  | .stxZpy _ => true
  | .styZp _ => true
  | .styAbs _ => true
  | .styZpx _ => true
  | .tax => true
  | .tay => true
  | .txa => true
  | .tya => true
  | .tsx => true
  | .txs => true
  | .pha => true
  | .php => true
  | .pla => true
  | .plp => true
  | .jmpAbs _ => true
  | .jmpInd _ => true
  | .jsr _ => true
  | .rts => true
  | .brk => true
  | .rti => true
  | .clc => true
  | .sec => true
  | .cli => true
  | .sei => true
  | .cld => true
  | .sed => true
  | .clv => true
  | .nop => true

end Sys2Proof
end

