-- ==== Sys2Proof/Decode.lean ====
section
/-! DEFINITION. The decoder, total on any bytes and rejecting by name, and after it the encoder, each
written from the opcode map of 30_encoding.md R87. -/

namespace Sys2Proof

/-! ### Bytes and words -/

/-- `zext_16(b)` (00_scope.md R9). -/
def zext (b : Byte) : Word := b.setWidth 16

/-- Bits 7:0 of a word. -/
def lowByte (w : Word) : Byte := w.setWidth 8

/-- Bits 15:8 of a word. -/
def highByte (w : Word) : Byte := (w >>> 8).setWidth 8

/-- `(hi << 8) | lo` (00_scope.md R9). -/
def wordOf (hi lo : Byte) : Word := (zext hi <<< 8) ||| zext lo

/-- A flag as the low bit of a byte. -/
def flagBit (b : Bool) : Byte := if b then 1 else 0

/-- A displacement as a 16-bit addend: `sext_16(b1)` of its operand byte (30_encoding.md R82). -/
def displacementWord (d : Int) : Word := BitVec.ofInt 16 d

/-! ### The decoder's vocabulary -/

/-- The 56 mnemonics (00_scope.md R2). -/
inductive Mnemonic where
  | ADC | SBC | INC | DEC | INX | INY | DEX | DEY
  | AND | ORA | EOR | BIT | CMP | CPX | CPY | ASL
  | LSR | ROL | ROR | BCC | BCS | BEQ | BMI | BNE
  | BPL | BVC | BVS | LDA | LDX | LDY | STA | STX
  | STY | TAX | TAY | TXA | TYA | TSX | TXS | PHA
  | PHP | PLA | PLP | JMP | JSR | RTS | BRK | RTI
  | CLC | SEC | CLI | SEI | CLD | SED | CLV | NOP
  deriving DecidableEq, Repr

/-- The 13 addressing modes (30_encoding.md R84). -/
inductive AddressingMode where
  | implied
  | accumulator
  | immediate
  | relative
  | zeroPage
  | zeroPageX
  | zeroPageY
  | absolute
  | absoluteX
  | absoluteY
  | indirect
  | indexedIndirect
  | indirectIndexed
  deriving DecidableEq, Repr

/-- The operand bytes each mode consumes (30_encoding.md R84). -/
def AddressingMode.operandBytes : AddressingMode → Nat
  | .implied => 0
  | .accumulator => 0
  | .immediate => 1
  | .relative => 1
  | .zeroPage => 1
  | .zeroPageX => 1
  | .zeroPageY => 1
  | .absolute => 2
  | .absoluteX => 2
  | .absoluteY => 2
  | .indirect => 2
  | .indexedIndirect => 1
  | .indirectIndexed => 1

/-! ### Decoding -/

/-- What an opcode byte selects: an instruction, up to the operand its mode consumes (30_encoding.md
R80, R82). -/
inductive Form where
  /-- Format F1: no operand byte. -/
  | complete (i : Instr)
  /-- Format F2: one operand byte used as is. -/
  | byte (f : Byte → Instr)
  /-- Format F2, Relative: the operand byte as a signed displacement. -/
  | displacement (f : Int → Instr)
  /-- Format F3: a 16-bit address, low byte first. -/
  | address (f : Word → Instr)

/-- The opcode map (30_encoding.md R87), by opcode value; none is "undefined" (R86). -/
def decodeOpcode (op : Byte) : Option Form :=
  match op.toNat with
  | 0x00 => some (.complete .brk)
  | 0x01 => some (.byte .oraIzx)
  | 0x05 => some (.byte .oraZp)
  | 0x06 => some (.byte .aslZp)
  | 0x08 => some (.complete .php)
  | 0x09 => some (.byte .oraImm)
  | 0x0A => some (.complete .aslAcc)
  | 0x0D => some (.address .oraAbs)
  | 0x0E => some (.address .aslAbs)
  | 0x10 => some (.displacement .bpl)
  | 0x11 => some (.byte .oraIzy)
  | 0x15 => some (.byte .oraZpx)
  | 0x16 => some (.byte .aslZpx)
  | 0x18 => some (.complete .clc)
  | 0x19 => some (.address .oraAby)
  | 0x1D => some (.address .oraAbx)
  | 0x1E => some (.address .aslAbx)
  | 0x20 => some (.address .jsr)
  | 0x21 => some (.byte .andIzx)
  | 0x24 => some (.byte .bitZp)
  | 0x25 => some (.byte .andZp)
  | 0x26 => some (.byte .rolZp)
  | 0x28 => some (.complete .plp)
  | 0x29 => some (.byte .andImm)
  | 0x2A => some (.complete .rolAcc)
  | 0x2C => some (.address .bitAbs)
  | 0x2D => some (.address .andAbs)
  | 0x2E => some (.address .rolAbs)
  | 0x30 => some (.displacement .bmi)
  | 0x31 => some (.byte .andIzy)
  | 0x35 => some (.byte .andZpx)
  | 0x36 => some (.byte .rolZpx)
  | 0x38 => some (.complete .sec)
  | 0x39 => some (.address .andAby)
  | 0x3D => some (.address .andAbx)
  | 0x3E => some (.address .rolAbx)
  | 0x40 => some (.complete .rti)
  | 0x41 => some (.byte .eorIzx)
  | 0x45 => some (.byte .eorZp)
  | 0x46 => some (.byte .lsrZp)
  | 0x48 => some (.complete .pha)
  | 0x49 => some (.byte .eorImm)
  | 0x4A => some (.complete .lsrAcc)
  | 0x4C => some (.address .jmpAbs)
  | 0x4D => some (.address .eorAbs)
  | 0x4E => some (.address .lsrAbs)
  | 0x50 => some (.displacement .bvc)
  | 0x51 => some (.byte .eorIzy)
  | 0x55 => some (.byte .eorZpx)
  | 0x56 => some (.byte .lsrZpx)
  | 0x58 => some (.complete .cli)
  | 0x59 => some (.address .eorAby)
  | 0x5D => some (.address .eorAbx)
  | 0x5E => some (.address .lsrAbx)
  | 0x60 => some (.complete .rts)
  | 0x61 => some (.byte .adcIzx)
  | 0x65 => some (.byte .adcZp)
  | 0x66 => some (.byte .rorZp)
  | 0x68 => some (.complete .pla)
  | 0x69 => some (.byte .adcImm)
  | 0x6A => some (.complete .rorAcc)
  | 0x6C => some (.address .jmpInd)
  | 0x6D => some (.address .adcAbs)
  | 0x6E => some (.address .rorAbs)
  | 0x70 => some (.displacement .bvs)
  | 0x71 => some (.byte .adcIzy)
  | 0x75 => some (.byte .adcZpx)
  | 0x76 => some (.byte .rorZpx)
  | 0x78 => some (.complete .sei)
  | 0x79 => some (.address .adcAby)
  | 0x7D => some (.address .adcAbx)
  | 0x7E => some (.address .rorAbx)
  | 0x81 => some (.byte .staIzx)
  | 0x84 => some (.byte .styZp)
  | 0x85 => some (.byte .staZp)
  | 0x86 => some (.byte .stxZp)
  | 0x88 => some (.complete .dey)
  | 0x8A => some (.complete .txa)
  | 0x8C => some (.address .styAbs)
  | 0x8D => some (.address .staAbs)
  | 0x8E => some (.address .stxAbs)
  | 0x90 => some (.displacement .bcc)
  | 0x91 => some (.byte .staIzy)
  | 0x94 => some (.byte .styZpx)
  | 0x95 => some (.byte .staZpx)
  | 0x96 => some (.byte .stxZpy)
  | 0x98 => some (.complete .tya)
  | 0x99 => some (.address .staAby)
  | 0x9A => some (.complete .txs)
  | 0x9D => some (.address .staAbx)
  | 0xA0 => some (.byte .ldyImm)
  | 0xA1 => some (.byte .ldaIzx)
  | 0xA2 => some (.byte .ldxImm)
  | 0xA4 => some (.byte .ldyZp)
  | 0xA5 => some (.byte .ldaZp)
  | 0xA6 => some (.byte .ldxZp)
  | 0xA8 => some (.complete .tay)
  | 0xA9 => some (.byte .ldaImm)
  | 0xAA => some (.complete .tax)
  | 0xAC => some (.address .ldyAbs)
  | 0xAD => some (.address .ldaAbs)
  | 0xAE => some (.address .ldxAbs)
  | 0xB0 => some (.displacement .bcs)
  | 0xB1 => some (.byte .ldaIzy)
  | 0xB4 => some (.byte .ldyZpx)
  | 0xB5 => some (.byte .ldaZpx)
  | 0xB6 => some (.byte .ldxZpy)
  | 0xB8 => some (.complete .clv)
  | 0xB9 => some (.address .ldaAby)
  | 0xBA => some (.complete .tsx)
  | 0xBC => some (.address .ldyAbx)
  | 0xBD => some (.address .ldaAbx)
  | 0xBE => some (.address .ldxAby)
  | 0xC0 => some (.byte .cpyImm)
  | 0xC1 => some (.byte .cmpIzx)
  | 0xC4 => some (.byte .cpyZp)
  | 0xC5 => some (.byte .cmpZp)
  | 0xC6 => some (.byte .decZp)
  | 0xC8 => some (.complete .iny)
  | 0xC9 => some (.byte .cmpImm)
  | 0xCA => some (.complete .dex)
  | 0xCC => some (.address .cpyAbs)
  | 0xCD => some (.address .cmpAbs)
  | 0xCE => some (.address .decAbs)
  | 0xD0 => some (.displacement .bne)
  | 0xD1 => some (.byte .cmpIzy)
  | 0xD5 => some (.byte .cmpZpx)
  | 0xD6 => some (.byte .decZpx)
  | 0xD8 => some (.complete .cld)
  | 0xD9 => some (.address .cmpAby)
  | 0xDD => some (.address .cmpAbx)
  | 0xDE => some (.address .decAbx)
  | 0xE0 => some (.byte .cpxImm)
  | 0xE1 => some (.byte .sbcIzx)
  | 0xE4 => some (.byte .cpxZp)
  | 0xE5 => some (.byte .sbcZp)
  | 0xE6 => some (.byte .incZp)
  | 0xE8 => some (.complete .inx)
  | 0xE9 => some (.byte .sbcImm)
  | 0xEA => some (.complete .nop)
  | 0xEC => some (.address .cpxAbs)
  | 0xED => some (.address .sbcAbs)
  | 0xEE => some (.address .incAbs)
  | 0xF0 => some (.displacement .beq)
  | 0xF1 => some (.byte .sbcIzy)
  | 0xF5 => some (.byte .sbcZpx)
  | 0xF6 => some (.byte .incZpx)
  | 0xF8 => some (.complete .sed)
  | 0xF9 => some (.address .sbcAby)
  | 0xFD => some (.address .sbcAbx)
  | 0xFE => some (.address .incAbx)
  | _ => none

/-- Why bytes do not decode. -/
inductive DecodeRejection where
  /-- The first byte is one of the 105 undefined opcodes (30_encoding.md R86). -/
  | undefinedOpcode (opcode : Byte)
  /-- The bytes end before the instruction does. -/
  | truncated
  deriving DecidableEq, Repr

/-- The decoder's answer: the instruction and the bytes after it, or a rejection by name. -/
inductive Decoded where
  | ok (i : Instr) (rest : List Byte)
  | rejected (why : DecodeRejection)
  deriving DecidableEq, Repr

/-- Decode the instruction at the head of a list of bytes (30_encoding.md R80 to R88). -/
def decode : List Byte → Decoded
  | [] => .rejected .truncated
  | op :: rest =>
    match decodeOpcode op, rest with
    | none, _ => .rejected (.undefinedOpcode op)
    | some (.complete i), rest => .ok i rest
    | some (.byte f), b :: rest => .ok (f b) rest
    | some (.displacement f), b :: rest => .ok (f b.toInt) rest
    | some (.address f), lo :: hi :: rest => .ok (f (wordOf hi lo)) rest
    | some (.byte _), [] => .rejected .truncated
    | some (.displacement _), [] => .rejected .truncated
    | some (.address _), [] => .rejected .truncated
    | some (.address _), [_] => .rejected .truncated

/-- The bytes of a table word, laid out as the hardware stores them: the first byte is bits 7:0, the
second 15:8, the third 23:16; bits at and above `nbits` are 0. -/
def tableBytes (nbits w : Nat) : List Byte :=
  let bits := w % 2 ^ nbits
  [BitVec.ofNat 8 bits, BitVec.ofNat 8 (bits / 0x100), BitVec.ofNat 8 (bits / 0x10000)]

/-- The instruction the decoder reads from a table word. -/
def decodeTableWord (nbits w : Nat) : Option Instr :=
  match decode (tableBytes nbits w) with
  | .ok i _ => some i
  | .rejected _ => none

/-! ### Encoding -/

/-- One row of the opcode table with its operand bytes filled in (30_encoding.md R80, R85, R87): the
decoder's output triple is (mnemonic, mode, cycles). -/
structure Row where
  opcode : Byte
  mnemonic : Mnemonic
  mode : AddressingMode
  cycles : Nat
  operands : List Byte
  deriving DecidableEq, Repr

/-- The operand byte of a displacement (30_encoding.md R82, R90). -/
def displacementByte (d : Int) : Byte := BitVec.ofInt 8 d

/-- The operand bytes of an address, low byte first (20_memory.md R52). -/
def addressBytes (addr : Word) : List Byte := [lowByte addr, highByte addr]

/-- The opcode table (30_encoding.md R87). -/
def Instr.row : Instr → Row
  | .adcIzx b => ⟨0x61, .ADC, .indexedIndirect, 6, [b]⟩
  | .adcZp b => ⟨0x65, .ADC, .zeroPage, 3, [b]⟩
  | .adcImm b => ⟨0x69, .ADC, .immediate, 2, [b]⟩
  | .adcAbs addr => ⟨0x6D, .ADC, .absolute, 4, addressBytes addr⟩
  | .adcIzy b => ⟨0x71, .ADC, .indirectIndexed, 5, [b]⟩
  | .adcZpx b => ⟨0x75, .ADC, .zeroPageX, 4, [b]⟩
  | .adcAby addr => ⟨0x79, .ADC, .absoluteY, 4, addressBytes addr⟩
  | .adcAbx addr => ⟨0x7D, .ADC, .absoluteX, 4, addressBytes addr⟩
  | .sbcIzx b => ⟨0xE1, .SBC, .indexedIndirect, 6, [b]⟩
  | .sbcZp b => ⟨0xE5, .SBC, .zeroPage, 3, [b]⟩
  | .sbcImm b => ⟨0xE9, .SBC, .immediate, 2, [b]⟩
  | .sbcAbs addr => ⟨0xED, .SBC, .absolute, 4, addressBytes addr⟩
  | .sbcIzy b => ⟨0xF1, .SBC, .indirectIndexed, 5, [b]⟩
  | .sbcZpx b => ⟨0xF5, .SBC, .zeroPageX, 4, [b]⟩
  | .sbcAby addr => ⟨0xF9, .SBC, .absoluteY, 4, addressBytes addr⟩
  | .sbcAbx addr => ⟨0xFD, .SBC, .absoluteX, 4, addressBytes addr⟩
  | .incZp b => ⟨0xE6, .INC, .zeroPage, 5, [b]⟩
  | .incAbs addr => ⟨0xEE, .INC, .absolute, 6, addressBytes addr⟩
  | .incZpx b => ⟨0xF6, .INC, .zeroPageX, 6, [b]⟩
  | .incAbx addr => ⟨0xFE, .INC, .absoluteX, 7, addressBytes addr⟩
  | .decZp b => ⟨0xC6, .DEC, .zeroPage, 5, [b]⟩
  | .decAbs addr => ⟨0xCE, .DEC, .absolute, 6, addressBytes addr⟩
  | .decZpx b => ⟨0xD6, .DEC, .zeroPageX, 6, [b]⟩
  | .decAbx addr => ⟨0xDE, .DEC, .absoluteX, 7, addressBytes addr⟩
  | .inx => ⟨0xE8, .INX, .implied, 2, []⟩
  | .iny => ⟨0xC8, .INY, .implied, 2, []⟩
  | .dex => ⟨0xCA, .DEX, .implied, 2, []⟩
  | .dey => ⟨0x88, .DEY, .implied, 2, []⟩
  | .andIzx b => ⟨0x21, .AND, .indexedIndirect, 6, [b]⟩
  | .andZp b => ⟨0x25, .AND, .zeroPage, 3, [b]⟩
  | .andImm b => ⟨0x29, .AND, .immediate, 2, [b]⟩
  | .andAbs addr => ⟨0x2D, .AND, .absolute, 4, addressBytes addr⟩
  | .andIzy b => ⟨0x31, .AND, .indirectIndexed, 5, [b]⟩
  | .andZpx b => ⟨0x35, .AND, .zeroPageX, 4, [b]⟩
  | .andAby addr => ⟨0x39, .AND, .absoluteY, 4, addressBytes addr⟩
  | .andAbx addr => ⟨0x3D, .AND, .absoluteX, 4, addressBytes addr⟩
  | .oraIzx b => ⟨0x01, .ORA, .indexedIndirect, 6, [b]⟩
  | .oraZp b => ⟨0x05, .ORA, .zeroPage, 3, [b]⟩
  | .oraImm b => ⟨0x09, .ORA, .immediate, 2, [b]⟩
  | .oraAbs addr => ⟨0x0D, .ORA, .absolute, 4, addressBytes addr⟩
  | .oraIzy b => ⟨0x11, .ORA, .indirectIndexed, 5, [b]⟩
  | .oraZpx b => ⟨0x15, .ORA, .zeroPageX, 4, [b]⟩
  | .oraAby addr => ⟨0x19, .ORA, .absoluteY, 4, addressBytes addr⟩
  | .oraAbx addr => ⟨0x1D, .ORA, .absoluteX, 4, addressBytes addr⟩
  | .eorIzx b => ⟨0x41, .EOR, .indexedIndirect, 6, [b]⟩
  | .eorZp b => ⟨0x45, .EOR, .zeroPage, 3, [b]⟩
  | .eorImm b => ⟨0x49, .EOR, .immediate, 2, [b]⟩
  | .eorAbs addr => ⟨0x4D, .EOR, .absolute, 4, addressBytes addr⟩
  | .eorIzy b => ⟨0x51, .EOR, .indirectIndexed, 5, [b]⟩
  | .eorZpx b => ⟨0x55, .EOR, .zeroPageX, 4, [b]⟩
  | .eorAby addr => ⟨0x59, .EOR, .absoluteY, 4, addressBytes addr⟩
  | .eorAbx addr => ⟨0x5D, .EOR, .absoluteX, 4, addressBytes addr⟩
  | .bitZp b => ⟨0x24, .BIT, .zeroPage, 3, [b]⟩
  | .bitAbs addr => ⟨0x2C, .BIT, .absolute, 4, addressBytes addr⟩
  | .cmpIzx b => ⟨0xC1, .CMP, .indexedIndirect, 6, [b]⟩
  | .cmpZp b => ⟨0xC5, .CMP, .zeroPage, 3, [b]⟩
  | .cmpImm b => ⟨0xC9, .CMP, .immediate, 2, [b]⟩
  | .cmpAbs addr => ⟨0xCD, .CMP, .absolute, 4, addressBytes addr⟩
  | .cmpIzy b => ⟨0xD1, .CMP, .indirectIndexed, 5, [b]⟩
  | .cmpZpx b => ⟨0xD5, .CMP, .zeroPageX, 4, [b]⟩
  | .cmpAby addr => ⟨0xD9, .CMP, .absoluteY, 4, addressBytes addr⟩
  | .cmpAbx addr => ⟨0xDD, .CMP, .absoluteX, 4, addressBytes addr⟩
  | .cpxImm b => ⟨0xE0, .CPX, .immediate, 2, [b]⟩
  | .cpxZp b => ⟨0xE4, .CPX, .zeroPage, 3, [b]⟩
  | .cpxAbs addr => ⟨0xEC, .CPX, .absolute, 4, addressBytes addr⟩
  | .cpyImm b => ⟨0xC0, .CPY, .immediate, 2, [b]⟩
  | .cpyZp b => ⟨0xC4, .CPY, .zeroPage, 3, [b]⟩
  | .cpyAbs addr => ⟨0xCC, .CPY, .absolute, 4, addressBytes addr⟩
  | .aslZp b => ⟨0x06, .ASL, .zeroPage, 5, [b]⟩
  | .aslAcc => ⟨0x0A, .ASL, .accumulator, 2, []⟩
  | .aslAbs addr => ⟨0x0E, .ASL, .absolute, 6, addressBytes addr⟩
  | .aslZpx b => ⟨0x16, .ASL, .zeroPageX, 6, [b]⟩
  | .aslAbx addr => ⟨0x1E, .ASL, .absoluteX, 7, addressBytes addr⟩
  | .lsrZp b => ⟨0x46, .LSR, .zeroPage, 5, [b]⟩
  | .lsrAcc => ⟨0x4A, .LSR, .accumulator, 2, []⟩
  | .lsrAbs addr => ⟨0x4E, .LSR, .absolute, 6, addressBytes addr⟩
  | .lsrZpx b => ⟨0x56, .LSR, .zeroPageX, 6, [b]⟩
  | .lsrAbx addr => ⟨0x5E, .LSR, .absoluteX, 7, addressBytes addr⟩
  | .rolZp b => ⟨0x26, .ROL, .zeroPage, 5, [b]⟩
  | .rolAcc => ⟨0x2A, .ROL, .accumulator, 2, []⟩
  | .rolAbs addr => ⟨0x2E, .ROL, .absolute, 6, addressBytes addr⟩
  | .rolZpx b => ⟨0x36, .ROL, .zeroPageX, 6, [b]⟩
  | .rolAbx addr => ⟨0x3E, .ROL, .absoluteX, 7, addressBytes addr⟩
  | .rorZp b => ⟨0x66, .ROR, .zeroPage, 5, [b]⟩
  | .rorAcc => ⟨0x6A, .ROR, .accumulator, 2, []⟩
  | .rorAbs addr => ⟨0x6E, .ROR, .absolute, 6, addressBytes addr⟩
  | .rorZpx b => ⟨0x76, .ROR, .zeroPageX, 6, [b]⟩
  | .rorAbx addr => ⟨0x7E, .ROR, .absoluteX, 7, addressBytes addr⟩
  | .bcc d => ⟨0x90, .BCC, .relative, 2, [displacementByte d]⟩
  | .bcs d => ⟨0xB0, .BCS, .relative, 2, [displacementByte d]⟩
  | .beq d => ⟨0xF0, .BEQ, .relative, 2, [displacementByte d]⟩
  | .bmi d => ⟨0x30, .BMI, .relative, 2, [displacementByte d]⟩
  | .bne d => ⟨0xD0, .BNE, .relative, 2, [displacementByte d]⟩
  | .bpl d => ⟨0x10, .BPL, .relative, 2, [displacementByte d]⟩
  | .bvc d => ⟨0x50, .BVC, .relative, 2, [displacementByte d]⟩
  | .bvs d => ⟨0x70, .BVS, .relative, 2, [displacementByte d]⟩
  | .ldaIzx b => ⟨0xA1, .LDA, .indexedIndirect, 6, [b]⟩
  | .ldaZp b => ⟨0xA5, .LDA, .zeroPage, 3, [b]⟩
  | .ldaImm b => ⟨0xA9, .LDA, .immediate, 2, [b]⟩
  | .ldaAbs addr => ⟨0xAD, .LDA, .absolute, 4, addressBytes addr⟩
  | .ldaIzy b => ⟨0xB1, .LDA, .indirectIndexed, 5, [b]⟩
  | .ldaZpx b => ⟨0xB5, .LDA, .zeroPageX, 4, [b]⟩
  | .ldaAby addr => ⟨0xB9, .LDA, .absoluteY, 4, addressBytes addr⟩
  | .ldaAbx addr => ⟨0xBD, .LDA, .absoluteX, 4, addressBytes addr⟩
  | .ldxImm b => ⟨0xA2, .LDX, .immediate, 2, [b]⟩
  | .ldxZp b => ⟨0xA6, .LDX, .zeroPage, 3, [b]⟩
  | .ldxAbs addr => ⟨0xAE, .LDX, .absolute, 4, addressBytes addr⟩
  | .ldxZpy b => ⟨0xB6, .LDX, .zeroPageY, 4, [b]⟩
  | .ldxAby addr => ⟨0xBE, .LDX, .absoluteY, 4, addressBytes addr⟩
  | .ldyImm b => ⟨0xA0, .LDY, .immediate, 2, [b]⟩
  | .ldyZp b => ⟨0xA4, .LDY, .zeroPage, 3, [b]⟩
  | .ldyAbs addr => ⟨0xAC, .LDY, .absolute, 4, addressBytes addr⟩
  | .ldyZpx b => ⟨0xB4, .LDY, .zeroPageX, 4, [b]⟩
  | .ldyAbx addr => ⟨0xBC, .LDY, .absoluteX, 4, addressBytes addr⟩
  | .staIzx b => ⟨0x81, .STA, .indexedIndirect, 6, [b]⟩
  | .staZp b => ⟨0x85, .STA, .zeroPage, 3, [b]⟩
  | .staAbs addr => ⟨0x8D, .STA, .absolute, 4, addressBytes addr⟩
  | .staIzy b => ⟨0x91, .STA, .indirectIndexed, 6, [b]⟩
  | .staZpx b => ⟨0x95, .STA, .zeroPageX, 4, [b]⟩
  | .staAby addr => ⟨0x99, .STA, .absoluteY, 5, addressBytes addr⟩
  | .staAbx addr => ⟨0x9D, .STA, .absoluteX, 5, addressBytes addr⟩
  | .stxZp b => ⟨0x86, .STX, .zeroPage, 3, [b]⟩
  | .stxAbs addr => ⟨0x8E, .STX, .absolute, 4, addressBytes addr⟩
  | .stxZpy b => ⟨0x96, .STX, .zeroPageY, 4, [b]⟩
  | .styZp b => ⟨0x84, .STY, .zeroPage, 3, [b]⟩
  | .styAbs addr => ⟨0x8C, .STY, .absolute, 4, addressBytes addr⟩
  | .styZpx b => ⟨0x94, .STY, .zeroPageX, 4, [b]⟩
  | .tax => ⟨0xAA, .TAX, .implied, 2, []⟩
  | .tay => ⟨0xA8, .TAY, .implied, 2, []⟩
  | .txa => ⟨0x8A, .TXA, .implied, 2, []⟩
  | .tya => ⟨0x98, .TYA, .implied, 2, []⟩
  | .tsx => ⟨0xBA, .TSX, .implied, 2, []⟩
  | .txs => ⟨0x9A, .TXS, .implied, 2, []⟩
  | .pha => ⟨0x48, .PHA, .implied, 3, []⟩
  | .php => ⟨0x08, .PHP, .implied, 3, []⟩
  | .pla => ⟨0x68, .PLA, .implied, 4, []⟩
  | .plp => ⟨0x28, .PLP, .implied, 4, []⟩
  | .jmpAbs addr => ⟨0x4C, .JMP, .absolute, 3, addressBytes addr⟩
  | .jmpInd addr => ⟨0x6C, .JMP, .indirect, 5, addressBytes addr⟩
  | .jsr addr => ⟨0x20, .JSR, .absolute, 6, addressBytes addr⟩
  | .rts => ⟨0x60, .RTS, .implied, 6, []⟩
  | .brk => ⟨0x00, .BRK, .implied, 7, []⟩
  | .rti => ⟨0x40, .RTI, .implied, 6, []⟩
  | .clc => ⟨0x18, .CLC, .implied, 2, []⟩
  | .sec => ⟨0x38, .SEC, .implied, 2, []⟩
  | .cli => ⟨0x58, .CLI, .implied, 2, []⟩
  | .sei => ⟨0x78, .SEI, .implied, 2, []⟩
  | .cld => ⟨0xD8, .CLD, .implied, 2, []⟩
  | .sed => ⟨0xF8, .SED, .implied, 2, []⟩
  | .clv => ⟨0xB8, .CLV, .implied, 2, []⟩
  | .nop => ⟨0xEA, .NOP, .implied, 2, []⟩

def Instr.opcode (i : Instr) : Byte := i.row.opcode

def Instr.mnemonic (i : Instr) : Mnemonic := i.row.mnemonic

def Instr.mode (i : Instr) : AddressingMode := i.row.mode

/-- The base cycle count (30_encoding.md R87; 40_pipeline_addressing.md R119). -/
def Instr.cycles (i : Instr) : Nat := i.row.cycles

/-- The instruction's bytes in the order of their addresses (30_encoding.md R80). -/
def encode (i : Instr) : List Byte := i.row.opcode :: i.row.operands

end Sys2Proof
end

