-- ==== Sys2Proof/Config.lean ====
section
/-! DEFINITION. What an implementation fixes: the named parameters of 00_scope.md R8, the fixed
addresses of the core, the event log's alphabet, and the one value the spec leaves free, the I/O
read oracle. -/

namespace Sys2Proof

/-- Index of one of the eight I/O registers: `addr & 0x0007` (20_memory.md R42, R47). -/
abbrev IoReg := BitVec 3

/-- The launch parameters of 00_scope.md R8. They belong to the launch tuple (70_reset_and_hazards.md
R231), so State carries them and every statement over states is a statement over all of them. -/
structure Params where
  /-- `P_JMP_IND_WRAP`: JMP indirect takes the pointer's high byte from the same page (R113, D4). -/
  jmpIndWrap : Bool
  /-- `P_ZP_PTR_WRAP`: zero-page pointers wrap within page zero (R114, R115, D5). -/
  zpPtrWrap : Bool
  /-- `P_STORE_READS`: STA, STX, STY read their target before writing it (R104, D6). -/
  storeReads : Bool
  /-- `P_PRG_MIRROR_SINGLE`: a one-bank cartridge shows bank 0 at 0xC000 too (R45, D18). -/
  prgMirrorSingle : Bool
  /-- `P_STUB_READ`: what 0x4020-0x7FFF reads as (R49, D16). -/
  stubRead : Byte
  /-- `P_IO_READONLY`: the I/O registers whose writes are dropped (R47, D17). -/
  ioReadOnly : List IoReg
  /-- `P_IRQ_NMI`: the optional interrupt extension is present (60_exceptions.md R214, D21). -/
  irqNmi : Bool
  deriving DecidableEq, Repr

/-- The defaults of 00_scope.md R8. -/
def Params.default : Params where
  jmpIndWrap := true
  zpPtrWrap := true
  storeReads := true
  prgMirrorSingle := true
  stubRead := 0x00
  ioReadOnly := [2]
  irqNmi := false

/-- Why a write was dropped (20_memory.md R69). -/
inductive DropReason where
  | romWrite
  | readOnlyIo
  | stubWrite
  deriving DecidableEq, Repr

/-- One entry of the event log (20_memory.md R69). Addresses are the bus address the CPU put out,
before any mirroring (DEDUCED, log 6). -/
inductive Event where
  /-- `Read(addr, value)`: a RAM, ROM or stub read, an opcode or operand fetch among them. -/
  | read (addr : Word) (value : Byte)
  /-- `IoReadEvent(r, value)`. -/
  | ioRead (r : IoReg) (value : Byte)
  /-- `Write(addr, value)`: a RAM write. -/
  | write (addr : Word) (value : Byte)
  /-- `IoWriteEvent(r, v)`. -/
  | ioWrite (r : IoReg) (value : Byte)
  /-- `DroppedWrite(addr, v, reason)` (60_exceptions.md R209). -/
  | droppedWrite (addr : Word) (value : Byte) (reason : DropReason)
  deriving DecidableEq, Repr

/-- FREE VALUE (log 5). The I/O oracle `IoRead(r, log)` (20_memory.md R47, D17): the byte the
external device answers, a function of the register index and of the whole event log and of nothing
else. No body: nothing can evaluate it, so a statement holds for every device. -/
opaque Config.ioRead : IoReg → List Event → Byte

/-- The BRK and IRQ vector (47_control_flow.md R191; 60_exceptions.md R217). -/
def Config.irqVector : Word := 0xFFFE

/-- The NMI vector of the optional extension (60_exceptions.md R217). -/
def Config.nmiVector : Word := 0xFFFA

/-- The lowest address of the stack page (20_memory.md R54). -/
def Config.stackPage : Word := 0x0100

end Sys2Proof
end

