-- ==== Sys2Proof/Machine/Memory.lean ====
section
/-! DEFINITION. Byte storage as plain data: a list of (offset, byte) pairs in one canonical form.
Work RAM and each cartridge bank are one Memory each, keyed by the offset the bus decode computes
(20_memory.md R42). -/

namespace Sys2Proof.Machine

/-- Offset and byte pairs; canonical when `Memory.wf` says so. -/
abbrev Memory := List Host.Cell

/-- What an unlisted offset reads as: 0x00 (DESIGN CHOICE, unsafe, log 2). For RAM this stands for
the launch input `ram0` where the state's RAM lists nothing (10_state.md R38, D3). -/
def Memory.fill : Byte := 0x00

/-- The byte at offset `a`. -/
def Memory.get : Memory → Nat → Byte
  | [], _ => Memory.fill
  | (k, v) :: rest, a => if k = a then v else Memory.get rest a

/-- The memory with no entry for `a`. -/
def Memory.erase : Memory → Nat → Memory
  | [], _ => []
  | (k, v) :: rest, a => if k = a then Memory.erase rest a else (k, v) :: Memory.erase rest a

/-- The memory with an entry for `a` put before the first greater offset. -/
def Memory.place : Memory → Nat → Byte → Memory
  | [], a, b => [(a, b)]
  | (k, v) :: rest, a, b => if a < k then (a, b) :: (k, v) :: rest else (k, v) :: Memory.place rest a b

/-- The memory with byte `b` at offset `a`; storing what an unlisted offset reads as removes the
entry, so equal memories are equal lists. -/
def Memory.set (m : Memory) (a : Nat) (b : Byte) : Memory :=
  if b = Memory.fill then m.erase a else (m.erase a).place a b

/-- Every offset of the list is at least `lo`, rising strictly, with no entry equal to the fill. -/
def Memory.risesFrom : Nat → Memory → Bool
  | _, [] => true
  | lo, (k, v) :: rest => decide (lo ≤ k) && decide (v ≠ Memory.fill) && Memory.risesFrom (k + 1) rest

/-- The canonical form: strictly rising offsets, no entry equal to the fill. -/
def Memory.wf (m : Memory) : Bool := Memory.risesFrom 0 m

/-- The canonical form with every offset below `size`: the contents of a RAM or bank of that size. -/
def Memory.wfBelow (size : Nat) (m : Memory) : Bool := m.wf && m.all fun c => decide (c.1 < size)

/-- The memory whose bytes from offset `k` on are the list's. -/
def Memory.ofBytesFrom : Nat → List Byte → Memory
  | _, [] => []
  | k, b :: rest =>
    if b = Memory.fill then Memory.ofBytesFrom (k + 1) rest else (k, b) :: Memory.ofBytesFrom (k + 1) rest

/-- The memory whose bytes from offset 0 on are the list's. -/
def Memory.ofBytes (bytes : List Byte) : Memory := Memory.ofBytesFrom 0 bytes

end Sys2Proof.Machine
end

