-- ==== Sys2Proof/Machine/State.lean ====
section
/-! DEFINITION. The machine's state: every piece of state the spec names (10_state.md; INVENTORY.md
lists each with its rule), the faults and refusals a step can end in, and the construction state. -/

namespace Sys2Proof.Machine

/-- `P`, the status register: an 8-bit flag set with named, independent bits, bit 0 first
(10_state.md R21). Read as a byte it is `Status.toByte`. -/
structure Status where
  /-- Carry, bit 0 (R23). -/
  c : Bool
  /-- Zero, bit 1 (R24). -/
  z : Bool
  /-- Interrupt-disable, bit 2 (R25). -/
  i : Bool
  /-- Decimal, bit 3, storage only (R26). -/
  d : Bool
  /-- Break, bit 4, written by no instruction (R27). -/
  b : Bool
  /-- The unused bit 5, written by no instruction (R27). -/
  u : Bool
  /-- Overflow, bit 6 (R28). -/
  v : Bool
  /-- Negative, bit 7 (R24). -/
  n : Bool
  deriving DecidableEq, Repr

/-- The decoded iNES header's fields (20_memory.md R58, R59). -/
structure Header where
  prgCount : Byte
  chrCount : Byte
  flags6 : Byte
  flags7 : Byte
  prgRamCount : Byte
  flags9 : Byte
  flags10 : Byte
  deriving DecidableEq, Repr

/-- The cartridge: header, program-ROM banks of 16 KB, character-ROM banks of 8 KB (10_state.md R32).
No step changes it. -/
structure Cartridge where
  header : Header
  prg : List Memory
  chr : List Memory
  deriving DecidableEq, Repr

/-- The faults a machine can hold, with their recorded values (60_exceptions.md R205). -/
inductive FaultCause where
  /-- F1: the opcode byte and the address it was fetched from (R206). -/
  | unimplementedOpcode (opcode : Byte) (pc : Word)
  /-- F2: a decoded mnemonic with no handler; this complete model never raises it (R208). -/
  | unimplementedSemantics (opcode : Byte) (pc : Word)
  /-- F3: the address of a program-ROM read that no bank backs (20_memory.md R44, R45). -/
  | missingPrgBank (addr : Word)
  deriving DecidableEq, Repr

structure State where
  /-- Accumulator (10_state.md R16). -/
  a : Byte
  /-- Index register X (R17). -/
  x : Byte
  /-- Index register Y (R18). -/
  y : Byte
  /-- Stack pointer (R19). -/
  sp : Byte
  /-- Program counter (R20). -/
  pc : Word
  /-- Status register (R21). -/
  p : Status
  /-- Work RAM by offset 0..2047 (R31; 20_memory.md R43). -/
  ram : Memory
  /-- The cartridge the bus owns (R31, R32). -/
  cart : Cartridge
  /-- The launch parameters (00_scope.md R8; 70_reset_and_hazards.md R231). -/
  params : Params
  /-- The fault state; a machine with a fault takes no further step (R33). -/
  fault : Option FaultCause
  /-- The append-only event log, NEWEST EVENT FIRST (R34; 20_memory.md R69, R70). -/
  log : List Event
  /-- The cycle count the last completed step returned (R35). No rule reads it. -/
  stepCycles : Nat
  /-- The NMI latch of the optional extension, driven by the host (R36; 60_exceptions.md R214). -/
  nmiPending : Bool
  /-- The IRQ level of the optional extension, driven by the host (R36; 60_exceptions.md R214). -/
  irqLine : Bool
  deriving DecidableEq, Repr

/-- Why a step stops the machine. Each constructor that a step raises carries the state at the end of
that step, its `fault` field set and the step's partial effects kept (40_pipeline_addressing.md R123),
so nothing of the stopped machine is lost (log 4). -/
inductive Fault where
  /-- Raised by the fetch phase on one of the 105 undefined opcodes (60_exceptions.md R206): every
  register is as before the step, the log has the opcode read. Safe: the spec names this stop. -/
  | unimplementedOpcode (opcode : Byte) (pc : Word) (final : State)
  /-- The spec's F2 (60_exceptions.md R208). Never raised: every decoded instruction has a meaning.
  Safe. -/
  | unimplementedSemantics (opcode : Byte) (pc : Word) (final : State)
  /-- Raised by any bus read of 0x8000-0xFFFF that no program bank backs (20_memory.md R44, R45).
  Safe: the spec names this stop. -/
  | missingPrgBank (addr : Word) (final : State)
  /-- Answered by `step` on a machine that already holds a fault: it takes no further step
  (10_state.md R33). Safe. -/
  | alreadyFaulted (cause : FaultCause)
  deriving DecidableEq, Repr

/-- Why a step has no meaning. -/
inductive Refusal where
  /-- An instruction without a meaning yet, rejected by name in `exec`. No arm is left that raises
  it. Safe: the machine stops. -/
  | notModelled (mnemonic : String)
  deriving DecidableEq, Repr

/-- The machine right after construction (10_state.md R38; 70_reset_and_hazards.md R230, R233). The
cartridge is loaded from outside; here it is the blank one of log 1: two program banks of zeros, no
character bank. RAM lists nothing (log 2), the parameters are R8's defaults (log 3), and no step has
returned a count yet (log 7). -/
def State.reset : State where
  a := 0x00
  x := 0x00
  y := 0x00
  sp := 0xFF
  pc := 0x0000
  p := ⟨false, false, false, false, false, false, false, false⟩
  ram := []
  cart :=
    { header := ⟨2, 0, 0, 0, 0, 0, 0⟩
      prg := [[], []]
      chr := [] }
  params := Params.default
  fault := none
  log := []
  stepCycles := 0
  nmiPending := false
  irqLine := false

end Sys2Proof.Machine
end

