-- ==== Sys2Proof/Machine/Flags.lean ====
section
/-! DEFINITION. The status register as a byte, and every flag computation of the spec. -/

namespace Sys2Proof.Machine

/-- `P` read as a byte: `(N << 7) | (V << 6) | (U << 5) | (B << 4) | (D << 3) | (I << 2) | (Z << 1) | C`
(10_state.md R22). -/
def Status.toByte (p : Status) : Byte :=
  (flagBit p.n <<< 7) ||| (flagBit p.v <<< 6) ||| (flagBit p.u <<< 5) ||| (flagBit p.b <<< 4) |||
  (flagBit p.d <<< 3) ||| (flagBit p.i <<< 2) ||| (flagBit p.z <<< 1) ||| flagBit p.c

/-- The flag set whose byte is `w`, by the same positions (10_state.md R22). -/
def Status.ofByte (w : Byte) : Status where
  c := w.getLsbD 0
  z := w.getLsbD 1
  i := w.getLsbD 2
  d := w.getLsbD 3
  b := w.getLsbD 4
  u := w.getLsbD 5
  v := w.getLsbD 6
  n := w.getLsbD 7

/-- What PLP and RTI load: `(s & 0xCF) | (P & 0x30)`, so B and U keep their stored values
(46_stack.md R184; 47_control_flow.md R192). -/
def Status.pulled (p : Status) (w : Byte) : Status :=
  { Status.ofByte w with b := p.b, u := p.u }

/-- What PHP and BRK push: `P | 0x30` (46_stack.md R182; 47_control_flow.md R191). -/
def Status.pushedByBrk (p : Status) : Byte := p.toByte ||| 0x30

/-- What the interrupt sequence pushes: `(P & 0xEF) | 0x20` (60_exceptions.md R215). -/
def Status.pushedByInterrupt (p : Status) : Byte := (p.toByte &&& 0xEF) ||| 0x20

/-- `SetNZ(v)`: Z from `v == 0`, N from bit 7 of `v` (40_pipeline_addressing.md R120). -/
def Status.setNZ (p : Status) (v : Byte) : Status :=
  { p with z := decide (v = 0), n := v.getLsbD 7 }

/-- A byte sum with its two flags (41_arithmetic.md R130). -/
structure Sum where
  value : Byte
  carry : Bool
  overflow : Bool
  deriving DecidableEq, Repr

/-- The exact sum `A + M + C`, 0..511, before it is reduced (41_arithmetic.md R131). -/
def exactSum (a m : Byte) (c : Bool) : Nat := a.toNat + m.toNat + c.toNat

/-- ADC's result, carry (the exact sum is over 0xFF) and overflow
(`((A ^ r) & (M ^ r) & 0x80) != 0`) (41_arithmetic.md R131). -/
def addWithCarry (a m : Byte) (c : Bool) : Sum :=
  let r : Byte := BitVec.ofNat 8 (exactSum a m c)
  { value := r
    carry := decide (0xFF < exactSum a m c)
    overflow := decide (((a ^^^ r) &&& (m ^^^ r) &&& 0x80) ≠ 0) }

/-- SBC's result and flags: `A + ~M + C`, overflow `((A ^ r) & (A ^ M) & 0x80) != 0`
(41_arithmetic.md R132). -/
def subWithBorrow (a m : Byte) (c : Bool) : Sum :=
  let r : Byte := BitVec.ofNat 8 (exactSum a (~~~m) c)
  { value := r
    carry := decide (0xFF < exactSum a (~~~m) c)
    overflow := decide (((a ^^^ r) &&& (a ^^^ m) &&& 0x80) ≠ 0) }

/-- P after ADC or SBC: C and V from the sum, N and Z from its value (R131, R132). -/
def Status.afterSum (p : Status) (r : Sum) : Status :=
  { p with c := r.carry, v := r.overflow }.setNZ r.value

/-- P after CMP, CPX, CPY: C is "no borrow", N and Z from the difference (42_logic_compare.md R144). -/
def Status.afterCompare (p : Status) (r m : Byte) : Status :=
  { p with c := decide (m.toNat ≤ r.toNat) }.setNZ (r - m)

/-- P after BIT: N and V are bits 7 and 6 of the operand, Z is `A & M == 0` (42_logic_compare.md R143). -/
def Status.afterBit (p : Status) (a m : Byte) : Status :=
  { p with n := m.getLsbD 7, v := m.getLsbD 6, z := decide (a &&& m = 0) }

/-- A byte operation with its effect on P: the form of every shift, rotate, increment and decrement. -/
abbrev ByteOp := Byte → Status → Byte × Status

/-- ASL: C is old bit 7 (43_shift_rotate.md R151). -/
def aslOp : ByteOp := fun m p =>
  let r := m <<< 1
  (r, { p with c := m.getLsbD 7 }.setNZ r)

/-- LSR: C is old bit 0 (43_shift_rotate.md R152). -/
def lsrOp : ByteOp := fun m p =>
  let r := m >>> 1
  (r, { p with c := m.getLsbD 0 }.setNZ r)

/-- ROL: the carry read before it is changed enters bit 0 (43_shift_rotate.md R153). -/
def rolOp : ByteOp := fun m p =>
  let r := (m <<< 1) ||| flagBit p.c
  (r, { p with c := m.getLsbD 7 }.setNZ r)

/-- ROR: the carry read before it is changed enters bit 7 (43_shift_rotate.md R154). -/
def rorOp : ByteOp := fun m p =>
  let r := (m >>> 1) ||| (flagBit p.c <<< 7)
  (r, { p with c := m.getLsbD 0 }.setNZ r)

/-- INC, INX, INY: plus one modulo 256 (41_arithmetic.md R133, R135, R136). -/
def incOp : ByteOp := fun m p => (m + 1, p.setNZ (m + 1))

/-- DEC, DEX, DEY: minus one modulo 256 (41_arithmetic.md R134, R137, R138). -/
def decOp : ByteOp := fun m p => (m - 1, p.setNZ (m - 1))

end Sys2Proof.Machine
end

