-- ==== Sys2Proof/Machine/Ops.lean ====
section
/-! DEFINITION. The named operations over registers, memory and the stack: the bus (20_memory.md), the
stack, taking a trap and returning from one. Every meaning is written over these. -/

namespace Sys2Proof.Machine

/-! ### Register and log updates -/

def State.setA (s : State) (v : Byte) : State := { s with a := v }
def State.setX (s : State) (v : Byte) : State := { s with x := v }
def State.setY (s : State) (v : Byte) : State := { s with y := v }
def State.setSp (s : State) (v : Byte) : State := { s with sp := v }
def State.setPc (s : State) (v : Word) : State := { s with pc := v }
def State.setP (s : State) (v : Status) : State := { s with p := v }
def State.setRam (s : State) (v : Memory) : State := { s with ram := v }
def State.setFault (s : State) (v : Option FaultCause) : State := { s with fault := v }
def State.setCycles (s : State) (v : Nat) : State := { s with stepCycles := v }
def State.setNmi (s : State) (v : Bool) : State := { s with nmiPending := v }
def State.setIrq (s : State) (v : Bool) : State := { s with irqLine := v }

/-- The log with one more event, the newest (10_state.md R34). -/
def State.logged (s : State) (e : Event) : State := { s with log := e :: s.log }

/-- `SetNZ(v)` on the state's P (40_pipeline_addressing.md R120). -/
def State.setNZ (s : State) (v : Byte) : State := s.setP (s.p.setNZ v)

/-! ### A computation that may stop at a bus read -/

/-- The result of a phase of a step: it goes on with a value and a state, or it stops the step with a
fault and the state reached so far (40_pipeline_addressing.md R123). -/
inductive Ran (α : Type) where
  | ok (value : α) (s : State)
  | stop (cause : FaultCause) (s : State)

/-- One phase after another; a stopped phase ends the step (00_scope.md R11, `raise`). -/
def Ran.andThen {α β : Type} : Ran α → (α → State → Ran β) → Ran β
  | .ok v s, k => k v s
  | .stop c s, _ => .stop c s

/-- The fault that a cause and the state at the end of its step make. -/
def Fault.ofCause (cause : FaultCause) (final : State) : Fault :=
  match cause with
  | .unimplementedOpcode op pc => .unimplementedOpcode op pc final
  | .unimplementedSemantics op pc => .unimplementedSemantics op pc final
  | .missingPrgBank a => .missingPrgBank a final

/-- The end of a faulting step: `fault` is set and the machine stops (10_state.md R33;
60_exceptions.md R205). -/
def raiseFault (cause : FaultCause) (s : State) : Host.Outcome State Fault Refusal :=
  .fault (Fault.ofCause cause (s.setFault (some cause)))

/-- The last phase: the next state from the value and the state, or the fault. -/
def Ran.finish {α : Type} (r : Ran α) (k : α → State → State) : Host.Outcome State Fault Refusal :=
  match r with
  | .ok v s => .next (k v s)
  | .stop c s => raiseFault c s

/-! ### The bus -/

/-- What an address selects (20_memory.md R42). -/
inductive BusTarget where
  | ram (offset : Nat)
  | io (r : IoReg)
  | apuStub
  | expStub
  | battStub
  | prg (bank : Nat) (offset : Nat)
  deriving DecidableEq, Repr

/-- The address decode, the single place address mirroring lives (20_memory.md R42). -/
def busTarget (addr : Word) : BusTarget :=
  if addr.toNat < 0x2000 then .ram (addr &&& 0x07FF).toNat
  else if addr.toNat < 0x4000 then .io ((addr &&& 0x0007).setWidth 3)
  else if addr.toNat < 0x4020 then .apuStub
  else if addr.toNat < 0x6000 then .expStub
  else if addr.toNat < 0x8000 then .battStub
  else if addr.toNat < 0xC000 then .prg 0 (addr &&& 0x3FFF).toNat
  else .prg 1 (addr &&& 0x3FFF).toNat

/-- The program bank behind a slot: bank 0 at 0x8000 (20_memory.md R44); at 0xC000 bank 1, or bank 0 of
a one-bank cartridge when `P_PRG_MIRROR_SINGLE` says so (R45). -/
def State.mappedBank (s : State) (slot : Nat) : Option Memory :=
  match slot with
  | 0 => s.cart.prg[0]?
  | _ =>
    match s.cart.prg[1]? with
    | some bank => some bank
    | none => if s.params.prgMirrorSingle then s.cart.prg[0]? else none

/-- The byte a bus read of `addr` gives, none where no program bank backs it (20_memory.md R43 to R50). -/
def State.busRead (s : State) (addr : Word) : Option Byte :=
  match busTarget addr with
  | .ram off => some (s.ram.get off)
  | .io r => some (Config.ioRead r s.log)
  | .apuStub => some 0x00
  | .expStub => some s.params.stubRead
  | .battStub => some s.params.stubRead
  | .prg slot off => (s.mappedBank slot).map fun bank => bank.get off

/-- The event a read of `addr` that gave `v` leaves in the log (20_memory.md R69). -/
def readEvent (addr : Word) (v : Byte) : Event :=
  match busTarget addr with
  | .io r => .ioRead r v
  | _ => .read addr v

/-- `MemRead(addr, 1)`: the byte, with the read logged; a read that no bank backs raises
`MissingPrgBank(addr)` and logs nothing (20_memory.md R42 to R50; log 6). -/
def read8 (addr : Word) (s : State) : Ran Byte :=
  match s.busRead addr with
  | some v => .ok v (s.logged (readEvent addr v))
  | none => .stop (.missingPrgBank addr) s

/-- `MemWrite(addr, 1, v)`: RAM stores; a writable I/O register gets an event; everything else is
dropped and reported (20_memory.md R43, R46 to R49). -/
def write8 (addr : Word) (v : Byte) (s : State) : State :=
  match busTarget addr with
  | .ram off => (s.setRam (s.ram.set off v)).logged (.write addr v)
  | .io r =>
    if s.params.ioReadOnly.contains r then s.logged (.droppedWrite addr v .readOnlyIo)
    else s.logged (.ioWrite r v)
  | .apuStub => s.logged (.droppedWrite addr v .stubWrite)
  | .expStub => s.logged (.droppedWrite addr v .stubWrite)
  | .battStub => s.logged (.droppedWrite addr v .stubWrite)
  | .prg _ _ => s.logged (.droppedWrite addr v .romWrite)

/-- Two reads joined into a word, the low byte's first (20_memory.md R51). -/
def readPair (lowAddr highAddr : Word) (s : State) : Ran Word :=
  (read8 lowAddr s).andThen fun lo s1 => (read8 highAddr s1).andThen fun hi s2 => .ok (wordOf hi lo) s2

/-- `ReadWord(addr)`: little-endian, `addr + 1` modulo 65536 (20_memory.md R51). -/
def readWord (addr : Word) (s : State) : Ran Word := readPair addr (addr + 1) s

/-! ### The stack -/

/-- The stack byte SP designates: `0x0100 | SP` (10_state.md R19; 20_memory.md R54). -/
def stackAddr (sp : Byte) : Word := Config.stackPage ||| zext sp

/-- `Push(v)`: write, then decrement SP modulo 256 (20_memory.md R55). -/
def push (v : Byte) (s : State) : State := (write8 (stackAddr s.sp) v s).setSp (s.sp - 1)

/-- `Pull()`: increment SP modulo 256, then read (20_memory.md R56). -/
def pull (s : State) : Ran Byte := read8 (stackAddr (s.sp + 1)) (s.setSp (s.sp + 1))

/-- `Push16(w)`: high byte, then low byte (20_memory.md R57). -/
def push16 (w : Word) (s : State) : State := push (lowByte w) (push (highByte w) s)

/-- `Pull16()`: low byte, then high byte (20_memory.md R57). -/
def pull16 (s : State) : Ran Word :=
  (pull s).andThen fun lo s1 => (pull s1).andThen fun hi s2 => .ok (wordOf hi lo) s2

/-! ### Taking a trap and returning from one -/

/-- Trap entry, shared by BRK (47_control_flow.md R191; 60_exceptions.md R212) and by the interrupt
sequence (60_exceptions.md R215): push the return address, push the status byte, set P.I, load PC from
the vector. -/
def enterTrap (ret : Word) (status : Byte) (vector : Word) (s : State) : Ran Unit :=
  let s1 := push status (push16 ret s)
  let s2 := s1.setP { s1.p with i := true }
  (readWord vector s2).andThen fun target s3 => .ok () (s3.setPc target)

/-- Trap return (RTI): pull the status, all but B and U, then PC with no adjustment
(47_control_flow.md R192; 60_exceptions.md R213). -/
def returnFromTrap (s : State) : Ran Unit :=
  (pull s).andThen fun w s1 =>
    (pull16 (s1.setP (s1.p.pulled w))).andThen fun target s2 => .ok () (s2.setPc target)

end Sys2Proof.Machine
end

