-- ==== Sys2Proof/Machine/Operands.lean ====
section
/-! DEFINITION. The addressing modes' effective addresses and the operand read
(40_pipeline_addressing.md R102 to R115). The operand bytes have been fetched; PC is past them. -/

namespace Sys2Proof.Machine

/-- The memory modes with their operand bytes (40_pipeline_addressing.md R103). -/
inductive MemMode where
  | zeroPage (b : Byte)
  | zeroPageX (b : Byte)
  | zeroPageY (b : Byte)
  | absolute (addr : Word)
  | absoluteX (addr : Word)
  | absoluteY (addr : Word)
  | indexedIndirect (b : Byte)
  | indirectIndexed (b : Byte)
  deriving DecidableEq, Repr

/-- Where an instruction that reads an operand byte takes it from: the instruction stream (R106) or
memory. -/
inductive Operand where
  | immediate (b : Byte)
  | memory (m : MemMode)
  deriving DecidableEq, Repr

/-- Where the high byte of the zero-page pointer at `z` is read: `(z + 1) mod 256` when
`P_ZP_PTR_WRAP`, else `z + 1` (40_pipeline_addressing.md R114, R115). -/
def zpPointerHigh (params : Params) (z : Byte) : Word :=
  if params.zpPtrWrap then zext (z + 1) else zext z + 1

/-- The 16-bit pointer held at zero-page address `z`, low byte first (R114, R115). -/
def readZpPointer (z : Byte) (s : State) : Ran Word :=
  readPair (zext z) (zpPointerHigh s.params z) s

/-- Where the high byte of JMP's indirect pointer is read: in the same page when `P_JMP_IND_WRAP`
(40_pipeline_addressing.md R113). -/
def jmpPointerHigh (params : Params) (ptr : Word) : Word :=
  if params.jmpIndWrap then (ptr &&& 0xFF00) ||| ((ptr + 1) &&& 0x00FF) else ptr + 1

/-- The Indirect mode, used by JMP only (40_pipeline_addressing.md R113). -/
def resolveIndirect (ptr : Word) (s : State) : Ran Word :=
  readPair ptr (jmpPointerHigh s.params ptr) s

/-- `Resolve`: the effective address of a memory mode (40_pipeline_addressing.md R107 to R115). The
zero-page index sums wrap in 8 bits, the absolute ones in 16 (D15). -/
def resolve (m : MemMode) (s : State) : Ran Word :=
  match m with
  | .zeroPage b => .ok (zext b) s
  | .zeroPageX b => .ok (zext (b + s.x)) s
  | .zeroPageY b => .ok (zext (b + s.y)) s
  | .absolute addr => .ok addr s
  | .absoluteX addr => .ok (addr + zext s.x) s
  | .absoluteY addr => .ok (addr + zext s.y) s
  | .indexedIndirect b => readZpPointer (b + s.x) s
  | .indirectIndexed b => (readZpPointer b s).andThen fun ptr s1 => .ok (ptr + zext s1.y) s1

/-- The effective address and the one operand read of it (40_pipeline_addressing.md R103, R104). -/
def readTarget (m : MemMode) (s : State) : Ran (Word × Byte) :=
  (resolve m s).andThen fun ea s1 => (read8 ea s1).andThen fun v s2 => .ok (ea, v) s2

/-- `OperandRead` for the instructions that compute with a byte (40_pipeline_addressing.md R103). -/
def operandRead (o : Operand) (s : State) : Ran Byte :=
  match o with
  | .immediate b => .ok b s
  | .memory m => (readTarget m s).andThen fun t s1 => .ok t.2 s1

/-! ### The shapes of an instruction over an operand -/

/-- Read the operand and change registers and flags by it. -/
def withOperand (o : Operand) (k : Byte → State → State) (s : State) : Host.Outcome State Fault Refusal :=
  (operandRead o s).finish k

/-- Store a register: with `P_STORE_READS` the target is read first and the value discarded, then it is
written once (40_pipeline_addressing.md R104, R117). -/
def storeByte (m : MemMode) (v : Byte) (s : State) : Host.Outcome State Fault Refusal :=
  ((resolve m s).andThen fun ea s1 =>
    if s1.params.storeReads then (read8 ea s1).andThen fun _ s2 => .ok ea s2 else .ok ea s1).finish
    fun ea s1 => write8 ea v s1

/-- Read-modify-write of memory: one read of the effective address, then one write of it
(40_pipeline_addressing.md R118). -/
def modifyMemory (op : ByteOp) (m : MemMode) (s : State) : Host.Outcome State Fault Refusal :=
  (readTarget m s).finish fun t s1 =>
    let r := op t.2 s1.p
    write8 t.1 r.1 (s1.setP r.2)

/-- The Accumulator mode: the operand is A and the result goes to A (40_pipeline_addressing.md R105,
R117). -/
def modifyA (op : ByteOp) (s : State) : Host.Outcome State Fault Refusal :=
  let r := op s.a s.p
  .next ((s.setP r.2).setA r.1)

end Sys2Proof.Machine
end

