-- ==== Sys2Proof/Machine/Arithmetic.lean ====
section
/-! DEFINITION. Arithmetic instructions (41_arithmetic.md): one meaning per opcode-table row. -/

namespace Sys2Proof.Machine

/-- ADC over any operand (R131). -/
def adc (o : Operand) (s : State) : Host.Outcome State Fault Refusal :=
  withOperand o (fun m s1 =>
    let r := addWithCarry s1.a m s1.p.c
    (s1.setA r.value).setP (s1.p.afterSum r)) s

/-- SBC over any operand (R132). -/
def sbc (o : Operand) (s : State) : Host.Outcome State Fault Refusal :=
  withOperand o (fun m s1 =>
    let r := subWithBorrow s1.a m s1.p.c
    (s1.setA r.value).setP (s1.p.afterSum r)) s

/-- ADC IndexedIndirect, 0x61 (R131). -/
def execAdcIzx (b : Byte) (s : State) : Host.Outcome State Fault Refusal :=
  adc (.memory (.indexedIndirect b)) s

/-- ADC ZeroPage, 0x65 (R131). -/
def execAdcZp (b : Byte) (s : State) : Host.Outcome State Fault Refusal :=
  adc (.memory (.zeroPage b)) s

/-- ADC Immediate, 0x69 (R131). -/
def execAdcImm (b : Byte) (s : State) : Host.Outcome State Fault Refusal :=
  adc (.immediate b) s

/-- ADC Absolute, 0x6D (R131). -/
def execAdcAbs (addr : Word) (s : State) : Host.Outcome State Fault Refusal :=
  adc (.memory (.absolute addr)) s

/-- ADC IndirectIndexed, 0x71 (R131). -/
def execAdcIzy (b : Byte) (s : State) : Host.Outcome State Fault Refusal :=
  adc (.memory (.indirectIndexed b)) s

/-- ADC ZeroPageX, 0x75 (R131). -/
def execAdcZpx (b : Byte) (s : State) : Host.Outcome State Fault Refusal :=
  adc (.memory (.zeroPageX b)) s

/-- ADC AbsoluteY, 0x79 (R131). -/
def execAdcAby (addr : Word) (s : State) : Host.Outcome State Fault Refusal :=
  adc (.memory (.absoluteY addr)) s

/-- ADC AbsoluteX, 0x7D (R131). -/
def execAdcAbx (addr : Word) (s : State) : Host.Outcome State Fault Refusal :=
  adc (.memory (.absoluteX addr)) s

/-- SBC IndexedIndirect, 0xE1 (R132). -/
def execSbcIzx (b : Byte) (s : State) : Host.Outcome State Fault Refusal :=
  sbc (.memory (.indexedIndirect b)) s

/-- SBC ZeroPage, 0xE5 (R132). -/
def execSbcZp (b : Byte) (s : State) : Host.Outcome State Fault Refusal :=
  sbc (.memory (.zeroPage b)) s

/-- SBC Immediate, 0xE9 (R132). -/
def execSbcImm (b : Byte) (s : State) : Host.Outcome State Fault Refusal :=
  sbc (.immediate b) s

/-- SBC Absolute, 0xED (R132). -/
def execSbcAbs (addr : Word) (s : State) : Host.Outcome State Fault Refusal :=
  sbc (.memory (.absolute addr)) s

/-- SBC IndirectIndexed, 0xF1 (R132). -/
def execSbcIzy (b : Byte) (s : State) : Host.Outcome State Fault Refusal :=
  sbc (.memory (.indirectIndexed b)) s

/-- SBC ZeroPageX, 0xF5 (R132). -/
def execSbcZpx (b : Byte) (s : State) : Host.Outcome State Fault Refusal :=
  sbc (.memory (.zeroPageX b)) s

/-- SBC AbsoluteY, 0xF9 (R132). -/
def execSbcAby (addr : Word) (s : State) : Host.Outcome State Fault Refusal :=
  sbc (.memory (.absoluteY addr)) s

/-- SBC AbsoluteX, 0xFD (R132). -/
def execSbcAbx (addr : Word) (s : State) : Host.Outcome State Fault Refusal :=
  sbc (.memory (.absoluteX addr)) s

/-- INC ZeroPage, 0xE6 (R133). -/
def execIncZp (b : Byte) (s : State) : Host.Outcome State Fault Refusal :=
  modifyMemory incOp (.zeroPage b) s

/-- INC Absolute, 0xEE (R133). -/
def execIncAbs (addr : Word) (s : State) : Host.Outcome State Fault Refusal :=
  modifyMemory incOp (.absolute addr) s

/-- INC ZeroPageX, 0xF6 (R133). -/
def execIncZpx (b : Byte) (s : State) : Host.Outcome State Fault Refusal :=
  modifyMemory incOp (.zeroPageX b) s

/-- INC AbsoluteX, 0xFE (R133). -/
def execIncAbx (addr : Word) (s : State) : Host.Outcome State Fault Refusal :=
  modifyMemory incOp (.absoluteX addr) s

/-- DEC ZeroPage, 0xC6 (R134). -/
def execDecZp (b : Byte) (s : State) : Host.Outcome State Fault Refusal :=
  modifyMemory decOp (.zeroPage b) s

/-- DEC Absolute, 0xCE (R134). -/
def execDecAbs (addr : Word) (s : State) : Host.Outcome State Fault Refusal :=
  modifyMemory decOp (.absolute addr) s

/-- DEC ZeroPageX, 0xD6 (R134). -/
def execDecZpx (b : Byte) (s : State) : Host.Outcome State Fault Refusal :=
  modifyMemory decOp (.zeroPageX b) s

/-- DEC AbsoluteX, 0xDE (R134). -/
def execDecAbx (addr : Word) (s : State) : Host.Outcome State Fault Refusal :=
  modifyMemory decOp (.absoluteX addr) s

/-- INX Implied, 0xE8 (R135). -/
def execInx (s : State) : Host.Outcome State Fault Refusal :=
  .next ((s.setX (incOp s.x s.p).1).setP (incOp s.x s.p).2)

/-- INY Implied, 0xC8 (R136). -/
def execIny (s : State) : Host.Outcome State Fault Refusal :=
  .next ((s.setY (incOp s.y s.p).1).setP (incOp s.y s.p).2)

/-- DEX Implied, 0xCA (R137). -/
def execDex (s : State) : Host.Outcome State Fault Refusal :=
  .next ((s.setX (decOp s.x s.p).1).setP (decOp s.x s.p).2)

/-- DEY Implied, 0x88 (R138). -/
def execDey (s : State) : Host.Outcome State Fault Refusal :=
  .next ((s.setY (decOp s.y s.p).1).setP (decOp s.y s.p).2)

end Sys2Proof.Machine
end

