-- ==== Sys2Proof/Machine/Branch.lean ====
section
/-! DEFINITION. Conditional branches (44_branch.md): one meaning per opcode-table row. -/

namespace Sys2Proof.Machine

/-- The common branch: PC is already past the operand; when the condition holds the signed displacement
is added modulo 65536 (R155). -/
def branchIf (cond : Bool) (d : Int) (s : State) : Host.Outcome State Fault Refusal :=
  .next (if cond then s.setPc (s.pc + displacementWord d) else s)

/-- BCC Relative, 0x90 (R156). -/
def execBcc (d : Int) (s : State) : Host.Outcome State Fault Refusal :=
  branchIf (!s.p.c) d s

/-- BCS Relative, 0xB0 (R157). -/
def execBcs (d : Int) (s : State) : Host.Outcome State Fault Refusal :=
  branchIf s.p.c d s

/-- BEQ Relative, 0xF0 (R158). -/
def execBeq (d : Int) (s : State) : Host.Outcome State Fault Refusal :=
  branchIf s.p.z d s

/-- BMI Relative, 0x30 (R159). -/
def execBmi (d : Int) (s : State) : Host.Outcome State Fault Refusal :=
  branchIf s.p.n d s

/-- BNE Relative, 0xD0 (R160). -/
def execBne (d : Int) (s : State) : Host.Outcome State Fault Refusal :=
  branchIf (!s.p.z) d s

/-- BPL Relative, 0x10 (R161). -/
def execBpl (d : Int) (s : State) : Host.Outcome State Fault Refusal :=
  branchIf (!s.p.n) d s

/-- BVC Relative, 0x50 (R162). -/
def execBvc (d : Int) (s : State) : Host.Outcome State Fault Refusal :=
  branchIf (!s.p.v) d s

/-- BVS Relative, 0x70 (R163). -/
def execBvs (d : Int) (s : State) : Host.Outcome State Fault Refusal :=
  branchIf s.p.v d s

end Sys2Proof.Machine
end

