-- ==== Sys2Proof/Machine/Control.lean ====
section
/-! DEFINITION. Jump, subroutine, break and return instructions (47_control_flow.md): one meaning per opcode-table row. -/

namespace Sys2Proof.Machine

/-- JMP Absolute, 0x4C (R187). -/
def execJmpAbs (addr : Word) (s : State) : Host.Outcome State Fault Refusal :=
  .next (s.setPc addr)

/-- JMP Indirect, 0x6C (R187). -/
def execJmpInd (addr : Word) (s : State) : Host.Outcome State Fault Refusal :=
  (resolveIndirect addr s).finish fun target s1 => s1.setPc target

/-- JSR Absolute, 0x20 (R188). PC is past the operand, so `PC - 1` is the address of JSR's last byte. -/
def execJsr (addr : Word) (s : State) : Host.Outcome State Fault Refusal :=
  .next ((push16 (s.pc - 1) s).setPc addr)

/-- RTS Implied, 0x60 (R189). The popped word plus one. -/
def execRts (s : State) : Host.Outcome State Fault Refusal :=
  (pull16 s).finish fun w s1 => s1.setPc (w + 1)

/-- BRK Implied, 0x00 (R191). PC is `pc0 + 1` here, so `pc0 + 2` is pushed. -/
def execBrk (s : State) : Host.Outcome State Fault Refusal :=
  (enterTrap (s.pc + 1) s.p.pushedByBrk Config.irqVector s).finish fun _ s1 => s1

/-- RTI Implied, 0x40 (R192). -/
def execRti (s : State) : Host.Outcome State Fault Refusal :=
  (returnFromTrap s).finish fun _ s1 => s1

end Sys2Proof.Machine
end

