-- ==== Sys2Proof/Machine/FlagOps.lean ====
section
/-! DEFINITION. Flag instructions and NOP (48_flags_misc.md): one meaning per opcode-table row. -/

namespace Sys2Proof.Machine

/-- CLC Implied, 0x18 (R195). -/
def execClc (s : State) : Host.Outcome State Fault Refusal :=
  .next (s.setP { s.p with c := false })

/-- SEC Implied, 0x38 (R196). -/
def execSec (s : State) : Host.Outcome State Fault Refusal :=
  .next (s.setP { s.p with c := true })

/-- CLI Implied, 0x58 (R197). -/
def execCli (s : State) : Host.Outcome State Fault Refusal :=
  .next (s.setP { s.p with i := false })

/-- SEI Implied, 0x78 (R198). -/
def execSei (s : State) : Host.Outcome State Fault Refusal :=
  .next (s.setP { s.p with i := true })

/-- CLD Implied, 0xD8 (R199). -/
def execCld (s : State) : Host.Outcome State Fault Refusal :=
  .next (s.setP { s.p with d := false })

/-- SED Implied, 0xF8 (R200). -/
def execSed (s : State) : Host.Outcome State Fault Refusal :=
  .next (s.setP { s.p with d := true })

/-- CLV Implied, 0xB8 (R201). -/
def execClv (s : State) : Host.Outcome State Fault Refusal :=
  .next (s.setP { s.p with v := false })

/-- NOP Implied, 0xEA (R202). -/
def execNop (s : State) : Host.Outcome State Fault Refusal :=
  .next s

end Sys2Proof.Machine
end

