-- ==== Sys2Proof/Machine/Logic.lean ====
section
/-! DEFINITION. Logic, bit-test and compare instructions (42_logic_compare.md): one meaning per opcode-table row. -/

namespace Sys2Proof.Machine

/-- AND, ORA, EOR over any operand: the result goes to A and sets N and Z (R140 to R142). -/
def logicA (f : Byte → Byte → Byte) (o : Operand) (s : State) : Host.Outcome State Fault Refusal :=
  withOperand o (fun m s1 => (s1.setA (f s1.a m)).setNZ (f s1.a m)) s

/-- BIT: only P changes (R143). -/
def bitTest (o : Operand) (s : State) : Host.Outcome State Fault Refusal :=
  withOperand o (fun m s1 => s1.setP (s1.p.afterBit s1.a m)) s

/-- CMP, CPX, CPY with the register `reg` reads: only P changes (R144). -/
def compareWith (reg : State → Byte) (o : Operand) (s : State) : Host.Outcome State Fault Refusal :=
  withOperand o (fun m s1 => s1.setP (s1.p.afterCompare (reg s1) m)) s

/-- AND IndexedIndirect, 0x21 (R140). -/
def execAndIzx (b : Byte) (s : State) : Host.Outcome State Fault Refusal :=
  logicA (· &&& ·) (.memory (.indexedIndirect b)) s

/-- AND ZeroPage, 0x25 (R140). -/
def execAndZp (b : Byte) (s : State) : Host.Outcome State Fault Refusal :=
  logicA (· &&& ·) (.memory (.zeroPage b)) s

/-- AND Immediate, 0x29 (R140). -/
def execAndImm (b : Byte) (s : State) : Host.Outcome State Fault Refusal :=
  logicA (· &&& ·) (.immediate b) s

/-- AND Absolute, 0x2D (R140). -/
def execAndAbs (addr : Word) (s : State) : Host.Outcome State Fault Refusal :=
  logicA (· &&& ·) (.memory (.absolute addr)) s

/-- AND IndirectIndexed, 0x31 (R140). -/
def execAndIzy (b : Byte) (s : State) : Host.Outcome State Fault Refusal :=
  logicA (· &&& ·) (.memory (.indirectIndexed b)) s

/-- AND ZeroPageX, 0x35 (R140). -/
def execAndZpx (b : Byte) (s : State) : Host.Outcome State Fault Refusal :=
  logicA (· &&& ·) (.memory (.zeroPageX b)) s

/-- AND AbsoluteY, 0x39 (R140). -/
def execAndAby (addr : Word) (s : State) : Host.Outcome State Fault Refusal :=
  logicA (· &&& ·) (.memory (.absoluteY addr)) s

/-- AND AbsoluteX, 0x3D (R140). -/
def execAndAbx (addr : Word) (s : State) : Host.Outcome State Fault Refusal :=
  logicA (· &&& ·) (.memory (.absoluteX addr)) s

/-- ORA IndexedIndirect, 0x01 (R141). -/
def execOraIzx (b : Byte) (s : State) : Host.Outcome State Fault Refusal :=
  logicA (· ||| ·) (.memory (.indexedIndirect b)) s

/-- ORA ZeroPage, 0x05 (R141). -/
def execOraZp (b : Byte) (s : State) : Host.Outcome State Fault Refusal :=
  logicA (· ||| ·) (.memory (.zeroPage b)) s

/-- ORA Immediate, 0x09 (R141). -/
def execOraImm (b : Byte) (s : State) : Host.Outcome State Fault Refusal :=
  logicA (· ||| ·) (.immediate b) s

/-- ORA Absolute, 0x0D (R141). -/
def execOraAbs (addr : Word) (s : State) : Host.Outcome State Fault Refusal :=
  logicA (· ||| ·) (.memory (.absolute addr)) s

/-- ORA IndirectIndexed, 0x11 (R141). -/
def execOraIzy (b : Byte) (s : State) : Host.Outcome State Fault Refusal :=
  logicA (· ||| ·) (.memory (.indirectIndexed b)) s

/-- ORA ZeroPageX, 0x15 (R141). -/
def execOraZpx (b : Byte) (s : State) : Host.Outcome State Fault Refusal :=
  logicA (· ||| ·) (.memory (.zeroPageX b)) s

/-- ORA AbsoluteY, 0x19 (R141). -/
def execOraAby (addr : Word) (s : State) : Host.Outcome State Fault Refusal :=
  logicA (· ||| ·) (.memory (.absoluteY addr)) s

/-- ORA AbsoluteX, 0x1D (R141). -/
def execOraAbx (addr : Word) (s : State) : Host.Outcome State Fault Refusal :=
  logicA (· ||| ·) (.memory (.absoluteX addr)) s

/-- EOR IndexedIndirect, 0x41 (R142). -/
def execEorIzx (b : Byte) (s : State) : Host.Outcome State Fault Refusal :=
  logicA (· ^^^ ·) (.memory (.indexedIndirect b)) s

/-- EOR ZeroPage, 0x45 (R142). -/
def execEorZp (b : Byte) (s : State) : Host.Outcome State Fault Refusal :=
  logicA (· ^^^ ·) (.memory (.zeroPage b)) s

/-- EOR Immediate, 0x49 (R142). -/
def execEorImm (b : Byte) (s : State) : Host.Outcome State Fault Refusal :=
  logicA (· ^^^ ·) (.immediate b) s

/-- EOR Absolute, 0x4D (R142). -/
def execEorAbs (addr : Word) (s : State) : Host.Outcome State Fault Refusal :=
  logicA (· ^^^ ·) (.memory (.absolute addr)) s

/-- EOR IndirectIndexed, 0x51 (R142). -/
def execEorIzy (b : Byte) (s : State) : Host.Outcome State Fault Refusal :=
  logicA (· ^^^ ·) (.memory (.indirectIndexed b)) s

/-- EOR ZeroPageX, 0x55 (R142). -/
def execEorZpx (b : Byte) (s : State) : Host.Outcome State Fault Refusal :=
  logicA (· ^^^ ·) (.memory (.zeroPageX b)) s

/-- EOR AbsoluteY, 0x59 (R142). -/
def execEorAby (addr : Word) (s : State) : Host.Outcome State Fault Refusal :=
  logicA (· ^^^ ·) (.memory (.absoluteY addr)) s

/-- EOR AbsoluteX, 0x5D (R142). -/
def execEorAbx (addr : Word) (s : State) : Host.Outcome State Fault Refusal :=
  logicA (· ^^^ ·) (.memory (.absoluteX addr)) s

/-- BIT ZeroPage, 0x24 (R143). -/
def execBitZp (b : Byte) (s : State) : Host.Outcome State Fault Refusal :=
  bitTest (.memory (.zeroPage b)) s

/-- BIT Absolute, 0x2C (R143). -/
def execBitAbs (addr : Word) (s : State) : Host.Outcome State Fault Refusal :=
  bitTest (.memory (.absolute addr)) s

/-- CMP IndexedIndirect, 0xC1 (R145). -/
def execCmpIzx (b : Byte) (s : State) : Host.Outcome State Fault Refusal :=
  compareWith State.a (.memory (.indexedIndirect b)) s

/-- CMP ZeroPage, 0xC5 (R145). -/
def execCmpZp (b : Byte) (s : State) : Host.Outcome State Fault Refusal :=
  compareWith State.a (.memory (.zeroPage b)) s

/-- CMP Immediate, 0xC9 (R145). -/
def execCmpImm (b : Byte) (s : State) : Host.Outcome State Fault Refusal :=
  compareWith State.a (.immediate b) s

/-- CMP Absolute, 0xCD (R145). -/
def execCmpAbs (addr : Word) (s : State) : Host.Outcome State Fault Refusal :=
  compareWith State.a (.memory (.absolute addr)) s

/-- CMP IndirectIndexed, 0xD1 (R145). -/
def execCmpIzy (b : Byte) (s : State) : Host.Outcome State Fault Refusal :=
  compareWith State.a (.memory (.indirectIndexed b)) s

/-- CMP ZeroPageX, 0xD5 (R145). -/
def execCmpZpx (b : Byte) (s : State) : Host.Outcome State Fault Refusal :=
  compareWith State.a (.memory (.zeroPageX b)) s

/-- CMP AbsoluteY, 0xD9 (R145). -/
def execCmpAby (addr : Word) (s : State) : Host.Outcome State Fault Refusal :=
  compareWith State.a (.memory (.absoluteY addr)) s

/-- CMP AbsoluteX, 0xDD (R145). -/
def execCmpAbx (addr : Word) (s : State) : Host.Outcome State Fault Refusal :=
  compareWith State.a (.memory (.absoluteX addr)) s

/-- CPX Immediate, 0xE0 (R146). -/
def execCpxImm (b : Byte) (s : State) : Host.Outcome State Fault Refusal :=
  compareWith State.x (.immediate b) s

/-- CPX ZeroPage, 0xE4 (R146). -/
def execCpxZp (b : Byte) (s : State) : Host.Outcome State Fault Refusal :=
  compareWith State.x (.memory (.zeroPage b)) s

/-- CPX Absolute, 0xEC (R146). -/
def execCpxAbs (addr : Word) (s : State) : Host.Outcome State Fault Refusal :=
  compareWith State.x (.memory (.absolute addr)) s

/-- CPY Immediate, 0xC0 (R147). -/
def execCpyImm (b : Byte) (s : State) : Host.Outcome State Fault Refusal :=
  compareWith State.y (.immediate b) s

/-- CPY ZeroPage, 0xC4 (R147). -/
def execCpyZp (b : Byte) (s : State) : Host.Outcome State Fault Refusal :=
  compareWith State.y (.memory (.zeroPage b)) s

/-- CPY Absolute, 0xCC (R147). -/
def execCpyAbs (addr : Word) (s : State) : Host.Outcome State Fault Refusal :=
  compareWith State.y (.memory (.absolute addr)) s

end Sys2Proof.Machine
end

