-- ==== Sys2Proof/Machine/Shift.lean ====
section
/-! DEFINITION. Shift and rotate instructions (43_shift_rotate.md): one meaning per opcode-table row. -/

namespace Sys2Proof.Machine

/-- ASL ZeroPage, 0x06 (R151). -/
def execAslZp (b : Byte) (s : State) : Host.Outcome State Fault Refusal :=
  modifyMemory aslOp (.zeroPage b) s

/-- ASL Accumulator, 0x0A (R151). -/
def execAslAcc (s : State) : Host.Outcome State Fault Refusal :=
  modifyA aslOp s

/-- ASL Absolute, 0x0E (R151). -/
def execAslAbs (addr : Word) (s : State) : Host.Outcome State Fault Refusal :=
  modifyMemory aslOp (.absolute addr) s

/-- ASL ZeroPageX, 0x16 (R151). -/
def execAslZpx (b : Byte) (s : State) : Host.Outcome State Fault Refusal :=
  modifyMemory aslOp (.zeroPageX b) s

/-- ASL AbsoluteX, 0x1E (R151). -/
def execAslAbx (addr : Word) (s : State) : Host.Outcome State Fault Refusal :=
  modifyMemory aslOp (.absoluteX addr) s

/-- LSR ZeroPage, 0x46 (R152). -/
def execLsrZp (b : Byte) (s : State) : Host.Outcome State Fault Refusal :=
  modifyMemory lsrOp (.zeroPage b) s

/-- LSR Accumulator, 0x4A (R152). -/
def execLsrAcc (s : State) : Host.Outcome State Fault Refusal :=
  modifyA lsrOp s

/-- LSR Absolute, 0x4E (R152). -/
def execLsrAbs (addr : Word) (s : State) : Host.Outcome State Fault Refusal :=
  modifyMemory lsrOp (.absolute addr) s

/-- LSR ZeroPageX, 0x56 (R152). -/
def execLsrZpx (b : Byte) (s : State) : Host.Outcome State Fault Refusal :=
  modifyMemory lsrOp (.zeroPageX b) s

/-- LSR AbsoluteX, 0x5E (R152). -/
def execLsrAbx (addr : Word) (s : State) : Host.Outcome State Fault Refusal :=
  modifyMemory lsrOp (.absoluteX addr) s

/-- ROL ZeroPage, 0x26 (R153). -/
def execRolZp (b : Byte) (s : State) : Host.Outcome State Fault Refusal :=
  modifyMemory rolOp (.zeroPage b) s

/-- ROL Accumulator, 0x2A (R153). -/
def execRolAcc (s : State) : Host.Outcome State Fault Refusal :=
  modifyA rolOp s

/-- ROL Absolute, 0x2E (R153). -/
def execRolAbs (addr : Word) (s : State) : Host.Outcome State Fault Refusal :=
  modifyMemory rolOp (.absolute addr) s

/-- ROL ZeroPageX, 0x36 (R153). -/
def execRolZpx (b : Byte) (s : State) : Host.Outcome State Fault Refusal :=
  modifyMemory rolOp (.zeroPageX b) s

/-- ROL AbsoluteX, 0x3E (R153). -/
def execRolAbx (addr : Word) (s : State) : Host.Outcome State Fault Refusal :=
  modifyMemory rolOp (.absoluteX addr) s

/-- ROR ZeroPage, 0x66 (R154). -/
def execRorZp (b : Byte) (s : State) : Host.Outcome State Fault Refusal :=
  modifyMemory rorOp (.zeroPage b) s

/-- ROR Accumulator, 0x6A (R154). -/
def execRorAcc (s : State) : Host.Outcome State Fault Refusal :=
  modifyA rorOp s

/-- ROR Absolute, 0x6E (R154). -/
def execRorAbs (addr : Word) (s : State) : Host.Outcome State Fault Refusal :=
  modifyMemory rorOp (.absolute addr) s

/-- ROR ZeroPageX, 0x76 (R154). -/
def execRorZpx (b : Byte) (s : State) : Host.Outcome State Fault Refusal :=
  modifyMemory rorOp (.zeroPageX b) s

/-- ROR AbsoluteX, 0x7E (R154). -/
def execRorAbx (addr : Word) (s : State) : Host.Outcome State Fault Refusal :=
  modifyMemory rorOp (.absoluteX addr) s

end Sys2Proof.Machine
end

