-- ==== Sys2Proof/Machine/Stack.lean ====
section
/-! DEFINITION. Stack instructions (46_stack.md): one meaning per opcode-table row. -/

namespace Sys2Proof.Machine

/-- PHA Implied, 0x48 (R181). -/
def execPha (s : State) : Host.Outcome State Fault Refusal :=
  .next (push s.a s)

/-- PHP Implied, 0x08 (R182). -/
def execPhp (s : State) : Host.Outcome State Fault Refusal :=
  .next (push s.p.pushedByBrk s)

/-- PLA Implied, 0x68 (R183). -/
def execPla (s : State) : Host.Outcome State Fault Refusal :=
  (pull s).finish fun v s1 => (s1.setA v).setNZ v

/-- PLP Implied, 0x28 (R184). -/
def execPlp (s : State) : Host.Outcome State Fault Refusal :=
  (pull s).finish fun w s1 => s1.setP (s1.p.pulled w)

end Sys2Proof.Machine
end

