-- ==== Sys2Proof/Machine/Transfer.lean ====
section
/-! DEFINITION. Loads, stores and register transfers (45_load_store_transfer.md): one meaning per opcode-table row. -/

namespace Sys2Proof.Machine

/-- LDA, LDX, LDY: the operand goes to a register and sets N and Z (R165 to R167). -/
def loadInto (set : State → Byte → State) (o : Operand) (s : State) : Host.Outcome State Fault Refusal :=
  withOperand o (fun m s1 => (set s1 m).setNZ m) s

/-- LDA IndexedIndirect, 0xA1 (R165). -/
def execLdaIzx (b : Byte) (s : State) : Host.Outcome State Fault Refusal :=
  loadInto State.setA (.memory (.indexedIndirect b)) s

/-- LDA ZeroPage, 0xA5 (R165). -/
def execLdaZp (b : Byte) (s : State) : Host.Outcome State Fault Refusal :=
  loadInto State.setA (.memory (.zeroPage b)) s

/-- LDA Immediate, 0xA9 (R165). -/
def execLdaImm (b : Byte) (s : State) : Host.Outcome State Fault Refusal :=
  loadInto State.setA (.immediate b) s

/-- LDA Absolute, 0xAD (R165). -/
def execLdaAbs (addr : Word) (s : State) : Host.Outcome State Fault Refusal :=
  loadInto State.setA (.memory (.absolute addr)) s

/-- LDA IndirectIndexed, 0xB1 (R165). -/
def execLdaIzy (b : Byte) (s : State) : Host.Outcome State Fault Refusal :=
  loadInto State.setA (.memory (.indirectIndexed b)) s

/-- LDA ZeroPageX, 0xB5 (R165). -/
def execLdaZpx (b : Byte) (s : State) : Host.Outcome State Fault Refusal :=
  loadInto State.setA (.memory (.zeroPageX b)) s

/-- LDA AbsoluteY, 0xB9 (R165). -/
def execLdaAby (addr : Word) (s : State) : Host.Outcome State Fault Refusal :=
  loadInto State.setA (.memory (.absoluteY addr)) s

/-- LDA AbsoluteX, 0xBD (R165). -/
def execLdaAbx (addr : Word) (s : State) : Host.Outcome State Fault Refusal :=
  loadInto State.setA (.memory (.absoluteX addr)) s

/-- LDX Immediate, 0xA2 (R166). -/
def execLdxImm (b : Byte) (s : State) : Host.Outcome State Fault Refusal :=
  loadInto State.setX (.immediate b) s

/-- LDX ZeroPage, 0xA6 (R166). -/
def execLdxZp (b : Byte) (s : State) : Host.Outcome State Fault Refusal :=
  loadInto State.setX (.memory (.zeroPage b)) s

/-- LDX Absolute, 0xAE (R166). -/
def execLdxAbs (addr : Word) (s : State) : Host.Outcome State Fault Refusal :=
  loadInto State.setX (.memory (.absolute addr)) s

/-- LDX ZeroPageY, 0xB6 (R166). -/
def execLdxZpy (b : Byte) (s : State) : Host.Outcome State Fault Refusal :=
  loadInto State.setX (.memory (.zeroPageY b)) s

/-- LDX AbsoluteY, 0xBE (R166). -/
def execLdxAby (addr : Word) (s : State) : Host.Outcome State Fault Refusal :=
  loadInto State.setX (.memory (.absoluteY addr)) s

/-- LDY Immediate, 0xA0 (R167). -/
def execLdyImm (b : Byte) (s : State) : Host.Outcome State Fault Refusal :=
  loadInto State.setY (.immediate b) s

/-- LDY ZeroPage, 0xA4 (R167). -/
def execLdyZp (b : Byte) (s : State) : Host.Outcome State Fault Refusal :=
  loadInto State.setY (.memory (.zeroPage b)) s

/-- LDY Absolute, 0xAC (R167). -/
def execLdyAbs (addr : Word) (s : State) : Host.Outcome State Fault Refusal :=
  loadInto State.setY (.memory (.absolute addr)) s

/-- LDY ZeroPageX, 0xB4 (R167). -/
def execLdyZpx (b : Byte) (s : State) : Host.Outcome State Fault Refusal :=
  loadInto State.setY (.memory (.zeroPageX b)) s

/-- LDY AbsoluteX, 0xBC (R167). -/
def execLdyAbx (addr : Word) (s : State) : Host.Outcome State Fault Refusal :=
  loadInto State.setY (.memory (.absoluteX addr)) s

/-- STA IndexedIndirect, 0x81 (R168). -/
def execStaIzx (b : Byte) (s : State) : Host.Outcome State Fault Refusal :=
  storeByte (.indexedIndirect b) s.a s

/-- STA ZeroPage, 0x85 (R168). -/
def execStaZp (b : Byte) (s : State) : Host.Outcome State Fault Refusal :=
  storeByte (.zeroPage b) s.a s

/-- STA Absolute, 0x8D (R168). -/
def execStaAbs (addr : Word) (s : State) : Host.Outcome State Fault Refusal :=
  storeByte (.absolute addr) s.a s

/-- STA IndirectIndexed, 0x91 (R168). -/
def execStaIzy (b : Byte) (s : State) : Host.Outcome State Fault Refusal :=
  storeByte (.indirectIndexed b) s.a s

/-- STA ZeroPageX, 0x95 (R168). -/
def execStaZpx (b : Byte) (s : State) : Host.Outcome State Fault Refusal :=
  storeByte (.zeroPageX b) s.a s

/-- STA AbsoluteY, 0x99 (R168). -/
def execStaAby (addr : Word) (s : State) : Host.Outcome State Fault Refusal :=
  storeByte (.absoluteY addr) s.a s

/-- STA AbsoluteX, 0x9D (R168). -/
def execStaAbx (addr : Word) (s : State) : Host.Outcome State Fault Refusal :=
  storeByte (.absoluteX addr) s.a s

/-- STX ZeroPage, 0x86 (R169). -/
def execStxZp (b : Byte) (s : State) : Host.Outcome State Fault Refusal :=
  storeByte (.zeroPage b) s.x s

/-- STX Absolute, 0x8E (R169). -/
def execStxAbs (addr : Word) (s : State) : Host.Outcome State Fault Refusal :=
  storeByte (.absolute addr) s.x s

/-- STX ZeroPageY, 0x96 (R169). -/
def execStxZpy (b : Byte) (s : State) : Host.Outcome State Fault Refusal :=
  storeByte (.zeroPageY b) s.x s

/-- STY ZeroPage, 0x84 (R170). -/
def execStyZp (b : Byte) (s : State) : Host.Outcome State Fault Refusal :=
  storeByte (.zeroPage b) s.y s

/-- STY Absolute, 0x8C (R170). -/
def execStyAbs (addr : Word) (s : State) : Host.Outcome State Fault Refusal :=
  storeByte (.absolute addr) s.y s

/-- STY ZeroPageX, 0x94 (R170). -/
def execStyZpx (b : Byte) (s : State) : Host.Outcome State Fault Refusal :=
  storeByte (.zeroPageX b) s.y s

/-- TAX Implied, 0xAA (R171). -/
def execTax (s : State) : Host.Outcome State Fault Refusal :=
  .next ((s.setX s.a).setNZ s.a)

/-- TAY Implied, 0xA8 (R172). -/
def execTay (s : State) : Host.Outcome State Fault Refusal :=
  .next ((s.setY s.a).setNZ s.a)

/-- TXA Implied, 0x8A (R173). -/
def execTxa (s : State) : Host.Outcome State Fault Refusal :=
  .next ((s.setA s.x).setNZ s.x)

/-- TYA Implied, 0x98 (R174). -/
def execTya (s : State) : Host.Outcome State Fault Refusal :=
  .next ((s.setA s.y).setNZ s.y)

/-- TSX Implied, 0xBA (R175). -/
def execTsx (s : State) : Host.Outcome State Fault Refusal :=
  .next ((s.setX s.sp).setNZ s.sp)

/-- TXS Implied, 0x9A (R176). The one transfer that sets no flag. -/
def execTxs (s : State) : Host.Outcome State Fault Refusal :=
  .next (s.setSp s.x)

end Sys2Proof.Machine
end

