-- ==== Sys2Proof/Machine/Interrupt.lean ====
section
/-! DEFINITION. The optional interrupt extension, present when `P_IRQ_NMI` is true
(60_exceptions.md R214 to R218). -/

namespace Sys2Proof.Machine

/-- An interrupt is taken at this step boundary (R215): an NMI is pending, or the IRQ line is held and
P.I is clear (R216). Never without the extension. -/
def State.interruptDue (s : State) : Bool :=
  s.params.irqNmi && (s.nmiPending || (s.irqLine && !s.p.i))

/-- The cycle count an interrupt step returns (R215). -/
def interruptCycles : Nat := 7

/-- The interrupt sequence (R215): NMI before IRQ (R218), PC pushed with no adjustment, status pushed
with bit 4 clear and bit 5 set, P.I set, PC from the vector. -/
def interruptSequence (s : State) : Host.Outcome State Fault Refusal :=
  let vector := if s.nmiPending then Config.nmiVector else Config.irqVector
  (enterTrap s.pc s.p.pushedByInterrupt vector (s.setNmi false)).finish
    fun _ s1 => s1.setCycles interruptCycles

end Sys2Proof.Machine
end

