-- ==== Sys2Proof/Machine/Pipeline.lean ====
section
/-! DEFINITION. The step's phases around execution: the fetch of an instruction's bytes, and one whole
step over any execute phase (40_pipeline_addressing.md R100 to R102, R119). -/

namespace Sys2Proof.Machine

/-- `Fetch()`: read the byte at PC, advance PC by one modulo 65536 (R101). -/
def fetchByte (s : State) : Ran Byte :=
  (read8 s.pc s).andThen fun b s1 => .ok b (s1.setPc (s1.pc + 1))

/-- Fetch the opcode, decode it, fetch the operand bytes its mode consumes (R101, R102). On an undefined
opcode PC goes back to the opcode's address and the step faults (R100; 60_exceptions.md R206). -/
def fetchInstr (s : State) : Ran Instr :=
  (fetchByte s).andThen fun op s1 =>
    match decodeOpcode op with
    | none => .stop (.unimplementedOpcode op s.pc) (s1.setPc s.pc)
    | some (.complete i) => .ok i s1
    | some (.byte f) => (fetchByte s1).andThen fun b s2 => .ok (f b) s2
    | some (.displacement f) => (fetchByte s1).andThen fun b s2 => .ok (f b.toInt) s2
    | some (.address f) =>
      (fetchByte s1).andThen fun lo s2 => (fetchByte s2).andThen fun hi s3 => .ok (f (wordOf hi lo)) s3

/-- A step that ends in a next state returns the instruction's base cycle count (R119). -/
def returnCycles (n : Nat) (o : Host.Outcome State Fault Refusal) : Host.Outcome State Fault Refusal :=
  match o with
  | .next t => .next (t.setCycles n)
  | .fault f => .fault f
  | .refused r => .refused r

/-- Fetch one instruction and run it by the given execute phase. -/
def runInstr (ex : Instr → State → Host.Outcome State Fault Refusal) (s : State) :
    Host.Outcome State Fault Refusal :=
  match fetchInstr s with
  | .ok i s1 => returnCycles i.cycles (ex i s1)
  | .stop c s1 => raiseFault c s1

/-- `step()` (R100): a machine that holds a fault takes no step (10_state.md R33); an interrupt that is
due is taken before the fetch (60_exceptions.md R215); otherwise one instruction runs. -/
def runStep (ex : Instr → State → Host.Outcome State Fault Refusal) (s : State) :
    Host.Outcome State Fault Refusal :=
  match s.fault with
  | some c => .fault (.alreadyFaulted c)
  | none => if s.interruptDue then interruptSequence s else runInstr ex s

/-! ### Placing an instruction where the next step fetches it (log 12) -/

/-- The `k`-th element replaced. -/
def replaceAt (k : Nat) (m : Memory) : List Memory → List Memory
  | [] => []
  | b :: rest => match k with
    | 0 => m :: rest
    | k + 1 => b :: replaceAt k m rest

/-- The bank number a slot shows, none where no bank backs it (20_memory.md R44, R45). -/
def State.mappedBankIndex (s : State) (slot : Nat) : Option Nat :=
  match slot with
  | 0 => if 0 < s.cart.prg.length then some 0 else none
  | _ =>
    if 1 < s.cart.prg.length then some 1
    else if s.params.prgMirrorSingle && decide (0 < s.cart.prg.length) then some 0 else none

/-- A byte put by the outside world into the storage behind an address, none where there is none. -/
def placeByte (addr : Word) (v : Byte) (s : State) : Option State :=
  match busTarget addr with
  | .ram off => some (s.setRam (s.ram.set off v))
  | .prg slot off =>
    match s.mappedBankIndex slot with
    | some k =>
      match s.cart.prg[k]? with
      | some bank => some { s with cart := { s.cart with prg := replaceAt k (bank.set off v) s.cart.prg } }
      | none => none
    | none => none
  | _ => none

/-- Bytes put at consecutive addresses, none unless storage backs each of them. -/
def placeBytes : List Byte → Word → State → Option State
  | [], _, s => some s
  | v :: rest, addr, s =>
    match placeByte addr v s with
    | some s1 => placeBytes rest (addr + 1) s1
    | none => none

/-- The machine with the bytes where its next step fetches them: no fault held, no interrupt due, the
bytes at PC, or, where no storage lies behind PC, at RAM address 0 with PC there. -/
def placeProgram (bytes : List Byte) (s : State) : State :=
  let s0 := s.setFault none
  let s1 := if s0.interruptDue then (s0.setNmi false).setIrq false else s0
  match placeBytes bytes s1.pc s1 with
  | some s2 => s2
  | none =>
    match placeBytes bytes 0 (s1.setPc 0) with
    | some s2 => s2
    | none => s1

end Sys2Proof.Machine
end

