-- ==== Sys2Proof/Machine/Step.lean ====
section
/-! DEFINITION. One step of the machine (40_pipeline_addressing.md R100), and the placing of one
instruction where the next step fetches it. -/

namespace Sys2Proof.Machine

/-- `step()`: one whole instruction, or an interrupt entry, or the end of the machine (R100). -/
def step (s : State) : Host.Outcome State Fault Refusal := runStep exec s

/-- `s` with a table word where the next step fetches (log 12). -/
def State.withFetchWord (s : State) (nbits w : Nat) : State := placeProgram (tableBytes nbits w) s

end Sys2Proof.Machine
end

