-- ==== Sys2Proof/Machine/Loader.lean ====
section
/-! DEFINITION. The iNES header parser and cartridge loader (20_memory.md R58 to R65), CPU construction
(70_reset_and_hazards.md R230) and the launch state (R231). -/

namespace Sys2Proof.Machine

/-- Why a load fails; no machine exists after one (60_exceptions.md R207). -/
inductive LoadError where
  /-- L1: the magic or the reserved bytes are wrong (20_memory.md R59). -/
  | badHeader
  /-- L2: the byte source ends early (20_memory.md R62). -/
  | truncated
  deriving DecidableEq, Repr

/-- The abstract byte source of the loader: the bytes still to be read (20_memory.md R60). -/
abbrev ByteSource := List Byte

/-- A fixed-length read: exactly `n` bytes and the source after them, or a failure (R60). -/
def readExact : Nat → ByteSource → Option (List Byte × ByteSource)
  | 0, src => some ([], src)
  | _ + 1, [] => none
  | n + 1, b :: src =>
    match readExact n src with
    | some (bytes, rest) => some (b :: bytes, rest)
    | none => none

/-- The 4-byte signature `N E S 0x1A` (R58). -/
def headerMagic : List Byte := [0x4E, 0x45, 0x53, 0x1A]

/-- `ParseHeader(h[0..15])`: magic and reserved bytes are checked, nothing else (R59). -/
def parseHeader : List Byte → Option Header
  | [h0, h1, h2, h3, prg, chr, f6, f7, prgRam, f9, f10, h11, h12, h13, h14, h15] =>
    if [h0, h1, h2, h3] = headerMagic ∧ [h11, h12, h13, h14, h15] = [0, 0, 0, 0, 0] then
      some ⟨prg, chr, f6, f7, prgRam, f9, f10⟩
    else none
  | _ => none

/-- "has trainer": bit 2 of flags byte 6 (R61). -/
def Header.hasTrainer (h : Header) : Bool := h.flags6.getLsbD 2

/-- "has battery-backed RAM": bit 1 of flags byte 6; it changes no mapping (R61, R49). -/
def Header.hasBattery (h : Header) : Bool := h.flags6.getLsbD 1

/-- The mapper number, held and read by no rule: its low nibble is flags6 bits 7:4, its high nibble
flags7 bits 7:4 (R58, R65). -/
def Header.mapperNumber (h : Header) : Byte := (h.flags7 &&& 0xF0) ||| (h.flags6 >>> 4)

/-- `count` banks of `size` bytes each, in order (R62). -/
def readBanks (size : Nat) : Nat → ByteSource → Option (List Memory × ByteSource)
  | 0, src => some ([], src)
  | count + 1, src =>
    match readExact size src with
    | none => none
    | some (bytes, rest) =>
      match readBanks size count rest with
      | none => none
      | some (banks, after) => some (Memory.ofBytes bytes :: banks, after)

/-- Header, trainer, program-bank and character-bank sizes (00_scope.md R7). -/
def headerSize : Nat := 16
def trainerSize : Nat := 512
def prgBankSize : Nat := 16384
def chrBankSize : Nat := 8192
def ramSize : Nat := 2048

/-- The trainer is read and discarded (R62, D20). -/
def skipTrainer (h : Header) (src : ByteSource) : Option ByteSource :=
  if h.hasTrainer then (readExact trainerSize src).map Prod.snd else some src

/-- The banks after the header and the trainer (R62). -/
def loadBanks (h : Header) (src : ByteSource) : Option Cartridge :=
  match readBanks prgBankSize h.prgCount.toNat src with
  | none => none
  | some (prg, rest) =>
    match readBanks chrBankSize h.chrCount.toNat rest with
    | none => none
    | some (chr, _) => some ⟨h, prg, chr⟩

/-- `Load(src)` (R62): bytes after the last bank are never read. -/
def loadCartridge (src : ByteSource) : Except LoadError Cartridge :=
  match readExact headerSize src with
  | none => .error .truncated
  | some (bytes, rest) =>
    match parseHeader bytes with
    | none => .error .badHeader
    | some h =>
      match skipTrainer h rest with
      | none => .error .truncated
      | some rest1 =>
        match loadBanks h rest1 with
        | none => .error .truncated
        | some cart => .ok cart

/-- Construction of the CPU on a loaded cartridge, with the launch input `ram0` and the parameters
(70_reset_and_hazards.md R230; 10_state.md R38). It reads no memory. -/
def construct (cart : Cartridge) (ram0 : Memory) (params : Params) : State :=
  { State.reset with cart := cart, ram := ram0, params := params }

/-- The machine a byte source gives: none on a load error (20_memory.md R64). -/
def powerOn (src : ByteSource) (ram0 : Memory) (params : Params) : Except LoadError State :=
  match loadCartridge src with
  | .error e => .error e
  | .ok cart => .ok (construct cart ram0 params)

/-- The register values the host may inject before the first step (70_reset_and_hazards.md R231). DESIGN
CHOICE, safe (log 16): the injected P may carry any stored bits 4 and 5. R231 lets the host set any
register, while 10_state.md R27 keeps the two at 0 for the whole run; the spec does not say which holds of
an injected P. -/
structure LaunchRegisters where
  a : Byte
  x : Byte
  y : Byte
  sp : Byte
  p : Status
  pc : Word
  deriving DecidableEq, Repr

/-- The default launch: the construction values (00_scope.md R8, `launch`). -/
def LaunchRegisters.default : LaunchRegisters :=
  ⟨State.reset.a, State.reset.x, State.reset.y, State.reset.sp, State.reset.p, State.reset.pc⟩

/-- The launch state: the constructed machine with the injected registers (R231), P taken whole (log 16). -/
def launch (cart : Cartridge) (ram0 : Memory) (params : Params) (r : LaunchRegisters) : State :=
  { construct cart ram0 params with a := r.a, x := r.x, y := r.y, sp := r.sp, p := r.p, pc := r.pc }

end Sys2Proof.Machine
end

