-- ==== Sys2Proof/Safety.lean ====
section
/-! DEFINITION. What counts as a sound state and a safe run, in the terms the statements use. -/

namespace Sys2Proof.Machine

/-- The cartridge is one a load can leave: as many banks as the header says (20_memory.md R62), each in
canonical form and of its size (00_scope.md R7). -/
def Cartridge.wf (c : Cartridge) : Bool :=
  decide (c.prg.length = c.header.prgCount.toNat) && decide (c.chr.length = c.header.chrCount.toNat) &&
  (c.prg.all (Memory.wfBelow prgBankSize) && c.chr.all (Memory.wfBelow chrBankSize))

/-- The invariant of a run: RAM and the cartridge keep their canonical form and sizes, the stored Break
and unused bits are 0 (10_state.md R27), and no fault is held. -/
def State.inv (s : State) : Bool :=
  s.ram.wfBelow ramSize && s.cart.wf && !s.p.b && !s.p.u && decide (s.fault = none)

/-- Both program-ROM windows have a bank behind them, so that no bus read can fault
(20_memory.md R44, R45, R50). -/
def State.romBacked (s : State) : Bool := (s.mappedBank 0).isSome && (s.mappedBank 1).isSome

end Sys2Proof.Machine
end

