-- ==== Sys2Proof/Certificates/Slice0/Vocabulary.lean ====
section
/-! DEFINITION. The words the statements are written in: the forms of each mnemonic, effective
addresses and operand values as plain functions of the state, storage, frames. Each is written from
the spec's rule, apart from the model's own meanings. -/

namespace Sys2Proof.Spec

open Sys2Proof.Machine

/-! ### Outcomes and flags -/

abbrev Outcome := Host.Outcome State Fault Refusal

/-- `SetNZ(v)` (40_pipeline_addressing.md R120). -/
def setNZ (p : Status) (v : Byte) : Status := { p with z := decide (v = 0), n := v.getLsbD 7 }

/-- The end of a faulting step (60_exceptions.md R205; 40_pipeline_addressing.md R123): the state
reached, with its fault set. -/
def missingBank (addr : Word) (s : State) : Outcome :=
  .fault (.missingPrgBank addr { s with fault := some (.missingPrgBank addr) })

/-! ### Storage -/

/-- The byte the storage behind an address holds, without a bus access: RAM, program ROM, and what the
stubs read as. None for the I/O window and where no bank is. -/
def storedByte (s : State) (addr : Word) : Option Byte :=
  match busTarget addr with
  | .ram off => some (s.ram.get off)
  | .io _ => none
  | .apuStub => some 0
  | .expStub => some s.params.stubRead
  | .battStub => some s.params.stubRead
  | .prg slot off => (s.mappedBank slot).map fun bank => bank.get off

/-- The RAM byte of the stack page that a stack pointer designates: `RAM[0x100 + sp]` (20_memory.md R54). -/
def stackCell (sp : Byte) : Nat := 0x100 + sp.toNat

/-- The state after a bus read of `addr` gave `v`: the read is logged (20_memory.md R69; the address the
event of a mirrored RAM read carries is the model's choice, log 6, DEDUCED). -/
def afterRead (s : State) (addr : Word) (v : Byte) : State := { s with log := readEvent addr v :: s.log }

/-- A program-ROM read: the bank's byte at the low 14 bits of the address, and the log entry (20_memory.md
R44, R45). -/
def readsBank (addr : Word) (bank : Memory) (s : State) : Ran Byte :=
  .ok (bank.get (addr.toNat % 0x4000)) { s with log := .read addr (bank.get (addr.toNat % 0x4000)) :: s.log }

/-! ### Effective addresses (40_pipeline_addressing.md R107 to R115) -/

/-- The address of a zero-page pointer's high byte (R114, R115). -/
def zpHigh (s : State) (z : Byte) : Nat :=
  if s.params.zpPtrWrap then (z.toNat + 1) % 256 else z.toNat + 1

/-- The zero-page address `(b + index) mod 256` (R108, R109). -/
def zpSum (b index : Byte) : Byte := BitVec.ofNat 8 ((b.toNat + index.toNat) % 256)

/-- The pointer held in RAM at zero-page address `z`, as a number: `(hi << 8) | lo` (R114, R115). -/
def zpPointer (s : State) (z : Byte) : Nat := (s.ram.get (zpHigh s z)).toNat * 256 + (s.ram.get z.toNat).toNat

/-- The effective address of each memory mode. -/
def effectiveAddress (s : State) : MemMode → Word
  | .zeroPage b => BitVec.ofNat 16 b.toNat
  | .zeroPageX b => BitVec.ofNat 16 ((b.toNat + s.x.toNat) % 256)
  | .zeroPageY b => BitVec.ofNat 16 ((b.toNat + s.y.toNat) % 256)
  | .absolute addr => addr
  | .absoluteX addr => BitVec.ofNat 16 ((addr.toNat + s.x.toNat) % 65536)
  | .absoluteY addr => BitVec.ofNat 16 ((addr.toNat + s.y.toNat) % 65536)
  | .indexedIndirect b => BitVec.ofNat 16 (zpPointer s (zpSum b s.x))
  | .indirectIndexed b => BitVec.ofNat 16 ((zpPointer s b + s.y.toNat) % 65536)

/-- The two reads of a zero-page pointer as log events, the newest (the high byte's) first. -/
def pointerReads (s : State) (z : Byte) : List Event :=
  [.read (BitVec.ofNat 16 (zpHigh s z)) (s.ram.get (zpHigh s z)), .read (BitVec.ofNat 16 z.toNat) (s.ram.get z.toNat)]

/-- The reads a mode makes to resolve its address (20_memory.md R70). -/
def resolveReads (s : State) : MemMode → List Event
  | .indexedIndirect b => pointerReads s (zpSum b s.x)
  | .indirectIndexed b => pointerReads s b
  | _ => []

/-- The state after the resolve phase: only the log has grown. -/
def afterResolve (s : State) (m : MemMode) : State := { s with log := resolveReads s m ++ s.log }

/-- The address of the high byte of JMP's indirect pointer: in the same page when `P_JMP_IND_WRAP`, else
the next address modulo 65536 (R113). -/
def jmpHigh (s : State) (ptr : Word) : Word :=
  if s.params.jmpIndWrap then BitVec.ofNat 16 (ptr.toNat / 256 * 256 + (ptr.toNat + 1) % 256)
  else BitVec.ofNat 16 ((ptr.toNat + 1) % 65536)

/-- The operand's value, none where the bus has no bank behind the effective address (R103). -/
def operandValue (s : State) : Operand → Option Byte
  | .immediate b => some b
  | .memory m => (afterResolve s m).busRead (effectiveAddress s m)

/-- The log after the operand read gave `v`: the pointer reads, then the one read of the effective
address (R103, R104). -/
def operandLog (s : State) (o : Operand) (v : Byte) : List Event :=
  match o with
  | .immediate _ => s.log
  | .memory m => readEvent (effectiveAddress s m) v :: (afterResolve s m).log

/-! ### The forms of each mnemonic (41_arithmetic.md to 45_load_store_transfer.md) -/

/-- ADC by operand, the forms of its rule's encoding table (R131). -/
def adcForm : Operand → Option Instr
  | .memory (.indexedIndirect b) => some (.adcIzx b)
  | .memory (.zeroPage b) => some (.adcZp b)
  | .immediate b => some (.adcImm b)
  | .memory (.absolute addr) => some (.adcAbs addr)
  | .memory (.indirectIndexed b) => some (.adcIzy b)
  | .memory (.zeroPageX b) => some (.adcZpx b)
  | .memory (.absoluteY addr) => some (.adcAby addr)
  | .memory (.absoluteX addr) => some (.adcAbx addr)
  | _ => none

/-- SBC by operand, the forms of its rule's encoding table (R132). -/
def sbcForm : Operand → Option Instr
  | .memory (.indexedIndirect b) => some (.sbcIzx b)
  | .memory (.zeroPage b) => some (.sbcZp b)
  | .immediate b => some (.sbcImm b)
  | .memory (.absolute addr) => some (.sbcAbs addr)
  | .memory (.indirectIndexed b) => some (.sbcIzy b)
  | .memory (.zeroPageX b) => some (.sbcZpx b)
  | .memory (.absoluteY addr) => some (.sbcAby addr)
  | .memory (.absoluteX addr) => some (.sbcAbx addr)
  | _ => none

/-- AND by operand, the forms of its rule's encoding table (R140). -/
def andForm : Operand → Option Instr
  | .memory (.indexedIndirect b) => some (.andIzx b)
  | .memory (.zeroPage b) => some (.andZp b)
  | .immediate b => some (.andImm b)
  | .memory (.absolute addr) => some (.andAbs addr)
  | .memory (.indirectIndexed b) => some (.andIzy b)
  | .memory (.zeroPageX b) => some (.andZpx b)
  | .memory (.absoluteY addr) => some (.andAby addr)
  | .memory (.absoluteX addr) => some (.andAbx addr)
  | _ => none

/-- ORA by operand, the forms of its rule's encoding table (R141). -/
def oraForm : Operand → Option Instr
  | .memory (.indexedIndirect b) => some (.oraIzx b)
  | .memory (.zeroPage b) => some (.oraZp b)
  | .immediate b => some (.oraImm b)
  | .memory (.absolute addr) => some (.oraAbs addr)
  | .memory (.indirectIndexed b) => some (.oraIzy b)
  | .memory (.zeroPageX b) => some (.oraZpx b)
  | .memory (.absoluteY addr) => some (.oraAby addr)
  | .memory (.absoluteX addr) => some (.oraAbx addr)
  | _ => none

/-- EOR by operand, the forms of its rule's encoding table (R142). -/
def eorForm : Operand → Option Instr
  | .memory (.indexedIndirect b) => some (.eorIzx b)
  | .memory (.zeroPage b) => some (.eorZp b)
  | .immediate b => some (.eorImm b)
  | .memory (.absolute addr) => some (.eorAbs addr)
  | .memory (.indirectIndexed b) => some (.eorIzy b)
  | .memory (.zeroPageX b) => some (.eorZpx b)
  | .memory (.absoluteY addr) => some (.eorAby addr)
  | .memory (.absoluteX addr) => some (.eorAbx addr)
  | _ => none

/-- BIT by operand, the forms of its rule's encoding table (R143). -/
def bitForm : Operand → Option Instr
  | .memory (.zeroPage b) => some (.bitZp b)
  | .memory (.absolute addr) => some (.bitAbs addr)
  | _ => none

/-- CMP by operand, the forms of its rule's encoding table (R145). -/
def cmpForm : Operand → Option Instr
  | .memory (.indexedIndirect b) => some (.cmpIzx b)
  | .memory (.zeroPage b) => some (.cmpZp b)
  | .immediate b => some (.cmpImm b)
  | .memory (.absolute addr) => some (.cmpAbs addr)
  | .memory (.indirectIndexed b) => some (.cmpIzy b)
  | .memory (.zeroPageX b) => some (.cmpZpx b)
  | .memory (.absoluteY addr) => some (.cmpAby addr)
  | .memory (.absoluteX addr) => some (.cmpAbx addr)
  | _ => none

/-- CPX by operand, the forms of its rule's encoding table (R146). -/
def cpxForm : Operand → Option Instr
  | .immediate b => some (.cpxImm b)
  | .memory (.zeroPage b) => some (.cpxZp b)
  | .memory (.absolute addr) => some (.cpxAbs addr)
  | _ => none

/-- CPY by operand, the forms of its rule's encoding table (R147). -/
def cpyForm : Operand → Option Instr
  | .immediate b => some (.cpyImm b)
  | .memory (.zeroPage b) => some (.cpyZp b)
  | .memory (.absolute addr) => some (.cpyAbs addr)
  | _ => none

/-- LDA by operand, the forms of its rule's encoding table (R165). -/
def ldaForm : Operand → Option Instr
  | .memory (.indexedIndirect b) => some (.ldaIzx b)
  | .memory (.zeroPage b) => some (.ldaZp b)
  | .immediate b => some (.ldaImm b)
  | .memory (.absolute addr) => some (.ldaAbs addr)
  | .memory (.indirectIndexed b) => some (.ldaIzy b)
  | .memory (.zeroPageX b) => some (.ldaZpx b)
  | .memory (.absoluteY addr) => some (.ldaAby addr)
  | .memory (.absoluteX addr) => some (.ldaAbx addr)
  | _ => none

/-- LDX by operand, the forms of its rule's encoding table (R166). -/
def ldxForm : Operand → Option Instr
  | .immediate b => some (.ldxImm b)
  | .memory (.zeroPage b) => some (.ldxZp b)
  | .memory (.absolute addr) => some (.ldxAbs addr)
  | .memory (.zeroPageY b) => some (.ldxZpy b)
  | .memory (.absoluteY addr) => some (.ldxAby addr)
  | _ => none

/-- LDY by operand, the forms of its rule's encoding table (R167). -/
def ldyForm : Operand → Option Instr
  | .immediate b => some (.ldyImm b)
  | .memory (.zeroPage b) => some (.ldyZp b)
  | .memory (.absolute addr) => some (.ldyAbs addr)
  | .memory (.zeroPageX b) => some (.ldyZpx b)
  | .memory (.absoluteX addr) => some (.ldyAbx addr)
  | _ => none

/-- STA by memory mode, the forms of its rule's encoding table (R168). -/
def staForm : MemMode → Option Instr
  | .indexedIndirect b => some (.staIzx b)
  | .zeroPage b => some (.staZp b)
  | .absolute addr => some (.staAbs addr)
  | .indirectIndexed b => some (.staIzy b)
  | .zeroPageX b => some (.staZpx b)
  | .absoluteY addr => some (.staAby addr)
  | .absoluteX addr => some (.staAbx addr)
  | _ => none

/-- STX by memory mode, the forms of its rule's encoding table (R169). -/
def stxForm : MemMode → Option Instr
  | .zeroPage b => some (.stxZp b)
  | .absolute addr => some (.stxAbs addr)
  | .zeroPageY b => some (.stxZpy b)
  | _ => none

/-- STY by memory mode, the forms of its rule's encoding table (R170). -/
def styForm : MemMode → Option Instr
  | .zeroPage b => some (.styZp b)
  | .absolute addr => some (.styAbs addr)
  | .zeroPageX b => some (.styZpx b)
  | _ => none

/-- INC by memory mode, the forms of its rule's encoding table (R133). -/
def incForm : MemMode → Option Instr
  | .zeroPage b => some (.incZp b)
  | .absolute addr => some (.incAbs addr)
  | .zeroPageX b => some (.incZpx b)
  | .absoluteX addr => some (.incAbx addr)
  | _ => none

/-- DEC by memory mode, the forms of its rule's encoding table (R134). -/
def decForm : MemMode → Option Instr
  | .zeroPage b => some (.decZp b)
  | .absolute addr => some (.decAbs addr)
  | .zeroPageX b => some (.decZpx b)
  | .absoluteX addr => some (.decAbx addr)
  | _ => none

/-- ASL by memory mode, the forms of its rule's encoding table (R151). -/
def aslForm : MemMode → Option Instr
  | .zeroPage b => some (.aslZp b)
  | .absolute addr => some (.aslAbs addr)
  | .zeroPageX b => some (.aslZpx b)
  | .absoluteX addr => some (.aslAbx addr)
  | _ => none

/-- LSR by memory mode, the forms of its rule's encoding table (R152). -/
def lsrForm : MemMode → Option Instr
  | .zeroPage b => some (.lsrZp b)
  | .absolute addr => some (.lsrAbs addr)
  | .zeroPageX b => some (.lsrZpx b)
  | .absoluteX addr => some (.lsrAbx addr)
  | _ => none

/-- ROL by memory mode, the forms of its rule's encoding table (R153). -/
def rolForm : MemMode → Option Instr
  | .zeroPage b => some (.rolZp b)
  | .absolute addr => some (.rolAbs addr)
  | .zeroPageX b => some (.rolZpx b)
  | .absoluteX addr => some (.rolAbx addr)
  | _ => none

/-- ROR by memory mode, the forms of its rule's encoding table (R154). -/
def rorForm : MemMode → Option Instr
  | .zeroPage b => some (.rorZp b)
  | .absolute addr => some (.rorAbs addr)
  | .zeroPageX b => some (.rorZpx b)
  | .absoluteX addr => some (.rorAbx addr)
  | _ => none

/-- Every mnemonic that reads a byte operand and writes no memory. -/
def operandReaders : List (Operand → Option Instr) :=
  [adcForm, sbcForm, andForm, oraForm, eorForm, bitForm, cmpForm, cpxForm, cpyForm, ldaForm, ldxForm, ldyForm]

/-- Every read-modify-write mnemonic. -/
def modifiers : List (MemMode → Option Instr) := [incForm, decForm, aslForm, lsrForm, rolForm, rorForm]

/-- The stores. -/
def storers : List (MemMode → Option Instr) := [staForm, stxForm, styForm]

/-! ### The encoding tables of the instruction rules -/

/-- One row of a rule's encoding table: mode, opcode, base cycles. Its length is one more than the
mode's operand bytes (30_encoding.md R81). -/
abbrev EncodingRow := AddressingMode × Byte × Nat

/-- The instruction has this mode, these bytes and this base cycle count. -/
def Encoded (i : Instr) (mode : AddressingMode) (opcode : Byte) (cycles : Nat) (operands : List Byte) : Prop :=
  i.mode = mode ∧ encode i = opcode :: operands ∧ i.cycles = cycles

/-- The addressing mode of an operand. -/
def operandMode : Operand → AddressingMode
  | .immediate _ => .immediate
  | .memory (.zeroPage _) => .zeroPage
  | .memory (.zeroPageX _) => .zeroPageX
  | .memory (.zeroPageY _) => .zeroPageY
  | .memory (.absolute _) => .absolute
  | .memory (.absoluteX _) => .absoluteX
  | .memory (.absoluteY _) => .absoluteY
  | .memory (.indexedIndirect _) => .indexedIndirect
  | .memory (.indirectIndexed _) => .indirectIndexed

/-- The low and the high byte of a word. -/
def lowOf (w : Word) : Byte := BitVec.ofNat 8 (w.toNat % 256)
def highOf (w : Word) : Byte := BitVec.ofNat 8 (w.toNat / 256)

/-- The operand bytes in the instruction stream, an address low byte first (30_encoding.md R82;
20_memory.md R52). -/
def operandStream : Operand → List Byte
  | .immediate b => [b]
  | .memory (.zeroPage b) => [b]
  | .memory (.zeroPageX b) => [b]
  | .memory (.zeroPageY b) => [b]
  | .memory (.absolute addr) => [lowOf addr, highOf addr]
  | .memory (.absoluteX addr) => [lowOf addr, highOf addr]
  | .memory (.absoluteY addr) => [lowOf addr, highOf addr]
  | .memory (.indexedIndirect b) => [b]
  | .memory (.indirectIndexed b) => [b]

/-- The mnemonic exists in exactly the modes of its rule's encoding table, each form encoded and timed as
its row says (40_pipeline_addressing.md R122). -/
def EncodingTable (form : Operand → Option Instr) (rows : List EncodingRow) : Prop :=
  ∀ o,
    (∀ i, form o = some i →
      ∃ r ∈ rows, r.1 = operandMode o ∧ Encoded i r.1 r.2.1 r.2.2 (operandStream o)) ∧
    (form o = none → ∀ r ∈ rows, r.1 ≠ operandMode o)

/-- The forms of a mnemonic that has memory modes only. -/
def ofMemory (form : MemMode → Option Instr) : Operand → Option Instr
  | .memory m => form m
  | .immediate _ => none

/-- The encoding table of 41_arithmetic.md R131. -/
def adcRows : List EncodingRow :=
  [(.immediate, 0x69, 2), (.zeroPage, 0x65, 3), (.zeroPageX, 0x75, 4), (.absolute, 0x6D, 4),
   (.absoluteX, 0x7D, 4), (.absoluteY, 0x79, 4), (.indexedIndirect, 0x61, 6), (.indirectIndexed, 0x71, 5)]

/-- The encoding table of 41_arithmetic.md R132. -/
def sbcRows : List EncodingRow :=
  [(.immediate, 0xE9, 2), (.zeroPage, 0xE5, 3), (.zeroPageX, 0xF5, 4), (.absolute, 0xED, 4),
   (.absoluteX, 0xFD, 4), (.absoluteY, 0xF9, 4), (.indexedIndirect, 0xE1, 6), (.indirectIndexed, 0xF1, 5)]

/-- The encoding table of 41_arithmetic.md R133. -/
def incRows : List EncodingRow :=
  [(.zeroPage, 0xE6, 5), (.zeroPageX, 0xF6, 6), (.absolute, 0xEE, 6), (.absoluteX, 0xFE, 7)]

/-- The encoding table of 41_arithmetic.md R134. -/
def decRows : List EncodingRow :=
  [(.zeroPage, 0xC6, 5), (.zeroPageX, 0xD6, 6), (.absolute, 0xCE, 6), (.absoluteX, 0xDE, 7)]

/-- The encoding table of 42_logic_compare.md R140. -/
def andRows : List EncodingRow :=
  [(.immediate, 0x29, 2), (.zeroPage, 0x25, 3), (.zeroPageX, 0x35, 4), (.absolute, 0x2D, 4),
   (.absoluteX, 0x3D, 4), (.absoluteY, 0x39, 4), (.indexedIndirect, 0x21, 6), (.indirectIndexed, 0x31, 5)]

/-- The encoding table of 42_logic_compare.md R141. -/
def oraRows : List EncodingRow :=
  [(.immediate, 0x09, 2), (.zeroPage, 0x05, 3), (.zeroPageX, 0x15, 4), (.absolute, 0x0D, 4),
   (.absoluteX, 0x1D, 4), (.absoluteY, 0x19, 4), (.indexedIndirect, 0x01, 6), (.indirectIndexed, 0x11, 5)]

/-- The encoding table of 42_logic_compare.md R142. -/
def eorRows : List EncodingRow :=
  [(.immediate, 0x49, 2), (.zeroPage, 0x45, 3), (.zeroPageX, 0x55, 4), (.absolute, 0x4D, 4),
   (.absoluteX, 0x5D, 4), (.absoluteY, 0x59, 4), (.indexedIndirect, 0x41, 6), (.indirectIndexed, 0x51, 5)]

/-- The encoding table of 42_logic_compare.md R143. -/
def bitRows : List EncodingRow :=
  [(.zeroPage, 0x24, 3), (.absolute, 0x2C, 4)]

/-- The encoding table of 42_logic_compare.md R145. -/
def cmpRows : List EncodingRow :=
  [(.immediate, 0xC9, 2), (.zeroPage, 0xC5, 3), (.zeroPageX, 0xD5, 4), (.absolute, 0xCD, 4),
   (.absoluteX, 0xDD, 4), (.absoluteY, 0xD9, 4), (.indexedIndirect, 0xC1, 6), (.indirectIndexed, 0xD1, 5)]

/-- The encoding table of 42_logic_compare.md R146. -/
def cpxRows : List EncodingRow :=
  [(.immediate, 0xE0, 2), (.zeroPage, 0xE4, 3), (.absolute, 0xEC, 4)]

/-- The encoding table of 42_logic_compare.md R147. -/
def cpyRows : List EncodingRow :=
  [(.immediate, 0xC0, 2), (.zeroPage, 0xC4, 3), (.absolute, 0xCC, 4)]

/-- The memory rows of 43_shift_rotate.md R151. -/
def aslRows : List EncodingRow :=
  [(.zeroPage, 0x06, 5), (.zeroPageX, 0x16, 6), (.absolute, 0x0E, 6), (.absoluteX, 0x1E, 7)]

/-- The memory rows of 43_shift_rotate.md R152. -/
def lsrRows : List EncodingRow :=
  [(.zeroPage, 0x46, 5), (.zeroPageX, 0x56, 6), (.absolute, 0x4E, 6), (.absoluteX, 0x5E, 7)]

/-- The memory rows of 43_shift_rotate.md R153. -/
def rolRows : List EncodingRow :=
  [(.zeroPage, 0x26, 5), (.zeroPageX, 0x36, 6), (.absolute, 0x2E, 6), (.absoluteX, 0x3E, 7)]

/-- The memory rows of 43_shift_rotate.md R154. -/
def rorRows : List EncodingRow :=
  [(.zeroPage, 0x66, 5), (.zeroPageX, 0x76, 6), (.absolute, 0x6E, 6), (.absoluteX, 0x7E, 7)]

/-- The encoding table of 45_load_store_transfer.md R165. -/
def ldaRows : List EncodingRow :=
  [(.immediate, 0xA9, 2), (.zeroPage, 0xA5, 3), (.zeroPageX, 0xB5, 4), (.absolute, 0xAD, 4),
   (.absoluteX, 0xBD, 4), (.absoluteY, 0xB9, 4), (.indexedIndirect, 0xA1, 6), (.indirectIndexed, 0xB1, 5)]

/-- The encoding table of 45_load_store_transfer.md R166. -/
def ldxRows : List EncodingRow :=
  [(.immediate, 0xA2, 2), (.zeroPage, 0xA6, 3), (.zeroPageY, 0xB6, 4),
   (.absolute, 0xAE, 4), (.absoluteY, 0xBE, 4)]

/-- The encoding table of 45_load_store_transfer.md R167. -/
def ldyRows : List EncodingRow :=
  [(.immediate, 0xA0, 2), (.zeroPage, 0xA4, 3), (.zeroPageX, 0xB4, 4),
   (.absolute, 0xAC, 4), (.absoluteX, 0xBC, 4)]

/-- The encoding table of 45_load_store_transfer.md R168. -/
def staRows : List EncodingRow :=
  [(.zeroPage, 0x85, 3), (.zeroPageX, 0x95, 4), (.absolute, 0x8D, 4), (.absoluteX, 0x9D, 5),
   (.absoluteY, 0x99, 5), (.indexedIndirect, 0x81, 6), (.indirectIndexed, 0x91, 6)]

/-- The encoding table of 45_load_store_transfer.md R169. -/
def stxRows : List EncodingRow :=
  [(.zeroPage, 0x86, 3), (.zeroPageY, 0x96, 4), (.absolute, 0x8E, 4)]

/-- The encoding table of 45_load_store_transfer.md R170. -/
def styRows : List EncodingRow :=
  [(.zeroPage, 0x84, 3), (.zeroPageX, 0x94, 4), (.absolute, 0x8C, 4)]

/-! ### Arithmetic as the rules write it -/

/-- The carry as 0 or 1. -/
def carry (s : State) : Nat := if s.p.c then 1 else 0

/-- ADC's exact sum (41_arithmetic.md R131). -/
def adcSum (s : State) (m : Byte) : Nat := s.a.toNat + m.toNat + carry s

/-- SBC's exact sum `A + ~M + C`, with `~M = 255 - M` (41_arithmetic.md R132). -/
def sbcSum (s : State) (m : Byte) : Nat := s.a.toNat + (255 - m.toNat) + carry s

/-- The result of ASL, LSR, ROL, ROR and the bit that leaves (43_shift_rotate.md R151 to R154). -/
def aslResult (m : Byte) : Byte := BitVec.ofNat 8 (m.toNat * 2 % 256)
def lsrResult (m : Byte) : Byte := BitVec.ofNat 8 (m.toNat / 2)
def rolResult (m : Byte) (c : Bool) : Byte := BitVec.ofNat 8 ((m.toNat * 2 + (if c then 1 else 0)) % 256)
def rorResult (m : Byte) (c : Bool) : Byte := BitVec.ofNat 8 (m.toNat / 2 + (if c then 128 else 0))

/-! ### The shapes of a result -/

/-- The mnemonic has the forms and encodings of its table, and every form, on every operand the bus can
read, completes, its next state being the state with the operand read logged, changed by `change` on the
operand's value. -/
def OperandResult (form : Operand → Option Instr) (rows : List EncodingRow) (change : Byte → State → State) :
    Prop :=
  EncodingTable form rows ∧ ∀ o i s v, form o = some i → operandValue s o = some v →
    exec i s = .next (change v { s with log := operandLog s o v })

/-- The store has the forms and encodings of its table, and every form completes: after the discarded read of the target (`P_STORE_READS`), or with
none, one write of the register at the effective address (45_load_store_transfer.md R168). -/
def StoreResult (form : MemMode → Option Instr) (rows : List EncodingRow) (reg : State → Byte) : Prop :=
  EncodingTable (ofMemory form) rows ∧ ∀ m i s, form m = some i →
    (s.params.storeReads = true → ∀ v, operandValue s (.memory m) = some v →
      exec i s = .next (write8 (effectiveAddress s m) (reg s) { s with log := operandLog s (.memory m) v })) ∧
    (s.params.storeReads = false →
      exec i s = .next (write8 (effectiveAddress s m) (reg s) (afterResolve s m)))

/-- A read-modify-write mnemonic has the memory forms and encodings of its table, and each completes: one read of the effective address, the
flags, one write of the result there (40_pipeline_addressing.md R118). -/
def ModifyResult (form : MemMode → Option Instr) (rows : List EncodingRow)
    (f : Byte → Status → Byte × Status) : Prop :=
  EncodingTable (ofMemory form) rows ∧ ∀ m i s v, form m = some i → operandValue s (.memory m) = some v →
    exec i s = .next (write8 (effectiveAddress s m) (f v s.p).1
      { s with p := (f v s.p).2, log := operandLog s (.memory m) v })

/-- The Accumulator form: the operand is A, the result goes to A (43_shift_rotate.md R150). -/
def AccumulatorResult (i : Instr) (opcode : Byte) (f : Byte → Status → Byte × Status) : Prop :=
  Encoded i .accumulator opcode 2 [] ∧ ∀ s, exec i s = .next { s with a := (f s.a s.p).1, p := (f s.a s.p).2 }

/-- An Implied instruction with this opcode and base cycle count always completes and changes the state by
`change`. -/
def ImpliedResult (i : Instr) (opcode : Byte) (cycles : Nat) (change : State → State) : Prop :=
  Encoded i .implied opcode cycles [] ∧ ∀ s, exec i s = .next (change s)

/-- INC and DEC (41_arithmetic.md R133, R134). -/
def incSpec (v : Byte) (p : Status) : Byte × Status :=
  (BitVec.ofNat 8 ((v.toNat + 1) % 256), setNZ p (BitVec.ofNat 8 ((v.toNat + 1) % 256)))
def decSpec (v : Byte) (p : Status) : Byte × Status :=
  (BitVec.ofNat 8 ((v.toNat + 255) % 256), setNZ p (BitVec.ofNat 8 ((v.toNat + 255) % 256)))

/-- ASL, LSR, ROL, ROR: the result, and the carry from the bit shifted out (43_shift_rotate.md R151 to
R154). -/
def aslSpec (m : Byte) (p : Status) : Byte × Status :=
  (aslResult m, setNZ { p with c := m.getLsbD 7 } (aslResult m))
def lsrSpec (m : Byte) (p : Status) : Byte × Status :=
  (lsrResult m, setNZ { p with c := m.getLsbD 0 } (lsrResult m))
def rolSpec (m : Byte) (p : Status) : Byte × Status :=
  (rolResult m p.c, setNZ { p with c := m.getLsbD 7 } (rolResult m p.c))
def rorSpec (m : Byte) (p : Status) : Byte × Status :=
  (rorResult m p.c, setNZ { p with c := m.getLsbD 0 } (rorResult m p.c))

/-- The compare of register value `r` with `m` (42_logic_compare.md R144). -/
def compareSpec (r m : Byte) (p : Status) : Status :=
  setNZ { p with c := decide (m.toNat ≤ r.toNat) } (BitVec.ofNat 8 ((r.toNat + 256 - m.toNat) % 256))

/-- The state after a sum with result, carry and overflow as given (41_arithmetic.md R131, R132). -/
def sumInto (sum : Nat) (overflow : Bool) (s : State) : State :=
  { s with
    a := BitVec.ofNat 8 (sum % 256)
    p := setNZ { s.p with c := decide (0xFF < sum), v := overflow } (BitVec.ofNat 8 (sum % 256)) }

/-- The address of a branch: PC is past the operand (44_branch.md R155). -/
def branchTarget (s : State) (d : Int) : Word := BitVec.ofInt 16 (s.pc.toNat + d)

/-- Every branch of the mnemonic, with every displacement its byte can carry, is taken exactly when its
condition holds, and writes nothing but PC (44_branch.md R155). -/
def BranchResult (branch : Int → Instr) (opcode : Byte) (cond : Status → Bool) : Prop :=
  ∀ d s, -128 ≤ d → d ≤ 127 →
    Encoded (branch d) .relative opcode 2 [BitVec.ofInt 8 d] ∧
    exec (branch d) s = .next { s with pc := if cond s.p then branchTarget s d else s.pc }

/-! ### Stack and trap states -/

/-- The bus address of a stack byte (20_memory.md R54). -/
def stackAddress (sp : Byte) : Word := BitVec.ofNat 16 (stackCell sp)

/-- The state after one push (20_memory.md R55). -/
def pushed (v : Byte) (s : State) : State :=
  { s with
    sp := s.sp - 1
    ram := s.ram.set (stackCell s.sp) v
    log := .write (stackAddress s.sp) v :: s.log }

/-- The stack byte the `k`-th next pull reads (20_memory.md R56). -/
def pullByte (s : State) (k : Byte) : Byte := s.ram.get (stackCell (s.sp + k))

/-- The log event of that pull. -/
def pullEvent (s : State) (k : Byte) : Event := .read (stackAddress (s.sp + k)) (pullByte s k)

/-- P after PLP or RTI pulled `w`: bits 7, 6, 3, 2, 1, 0 from it, B and U kept (46_stack.md R184). -/
def pulledStatus (p : Status) (w : Byte) : Status :=
  { p with
    n := w.getLsbD 7, v := w.getLsbD 6, d := w.getLsbD 3, i := w.getLsbD 2, z := w.getLsbD 1, c := w.getLsbD 0 }

/-- The word of a high and a low byte. -/
def word (hi lo : Byte) : Word := BitVec.ofNat 16 (hi.toNat * 256 + lo.toNat)

/-- The state after the three pushes of a trap entry, P.I set (60_exceptions.md R212, R215). -/
def trapPushed (ret : Word) (status : Byte) (s : State) : State :=
  let s1 := pushed status (pushed (lowOf ret) (pushed (highOf ret) s))
  { s1 with p := { s1.p with i := true } }

/-- The state after a trap entry whose vector is at offset `off` and `off + 1` of the bank at 0xC000
(20_memory.md R45; 47_control_flow.md R191). -/
def trapEntered (ret : Word) (status : Byte) (bank : Memory) (off : Nat) (s : State) : State :=
  let s1 := trapPushed ret status s
  { s1 with
    pc := word (bank.get (off + 1)) (bank.get off)
    log := .read (BitVec.ofNat 16 (0xC000 + off + 1)) (bank.get (off + 1))
      :: .read (BitVec.ofNat 16 (0xC000 + off)) (bank.get off) :: s1.log }

/-- Where the interrupt vector lies in the bank at 0xC000: NMI 0xFFFA before IRQ 0xFFFE (60_exceptions.md
R217, R218). -/
def interruptVectorOffset (s : State) : Nat := if s.nmiPending then 0x3FFA else 0x3FFE

/-! ### Fetching -/

/-- `Fetches bs s t`: from `s` the bus gives the bytes `bs` at PC one after another, PC advancing by one
for each modulo 65536, and `t` is the state after them (40_pipeline_addressing.md R101, R102). -/
def Fetches : List Byte → State → State → Prop
  | [], s, t => t = s
  | b :: bs, s, t =>
    s.busRead s.pc = some b ∧ Fetches bs { s with pc := s.pc + 1, log := readEvent s.pc b :: s.log } t

/-- The 105 undefined opcodes (30_encoding.md R86). -/
def undefinedOpcodes : List Byte :=
  [0x02, 0x03, 0x04, 0x07, 0x0B, 0x0C, 0x0F, 0x12, 0x13, 0x14, 0x17, 0x1A, 0x1B, 0x1C, 0x1F]
  ++ [0x22, 0x23, 0x27, 0x2B, 0x2F, 0x32, 0x33, 0x34, 0x37, 0x3A, 0x3B, 0x3C, 0x3F, 0x42, 0x43]
  ++ [0x44, 0x47, 0x4B, 0x4F, 0x52, 0x53, 0x54, 0x57, 0x5A, 0x5B, 0x5C, 0x5F, 0x62, 0x63, 0x64]
  ++ [0x67, 0x6B, 0x6F, 0x72, 0x73, 0x74, 0x77, 0x7A, 0x7B, 0x7C, 0x7F, 0x80, 0x82, 0x83, 0x87]
  ++ [0x89, 0x8B, 0x8F, 0x92, 0x93, 0x97, 0x9B, 0x9C, 0x9E, 0x9F, 0xA3, 0xA7, 0xAB, 0xAF, 0xB2]
  ++ [0xB3, 0xB7, 0xBB, 0xBF, 0xC2, 0xC3, 0xC7, 0xCB, 0xCF, 0xD2, 0xD3, 0xD4, 0xD7, 0xDA, 0xDB]
  ++ [0xDC, 0xDF, 0xE2, 0xE3, 0xE7, 0xEB, 0xEF, 0xF2, 0xF3, 0xF4, 0xF7, 0xFA, 0xFB, 0xFC, 0xFF]

/-! ### Frames -/

/-- The flags of P by name (10_state.md R21). -/
inductive Flag where
  | N | V | U | B | D | I | Z | C
  deriving DecidableEq, Repr

def flagOf (p : Status) : Flag → Bool
  | .N => p.n
  | .V => p.v
  | .U => p.u
  | .B => p.b
  | .D => p.d
  | .I => p.i
  | .Z => p.z
  | .C => p.c

/-- The flag-writing summary of 10_state.md R29, one row per mnemonic. -/
def flagsWritten : Mnemonic → List Flag
  | .ADC | .SBC => [.N, .V, .Z, .C]
  | .AND | .ORA | .EOR => [.N, .Z]
  | .ASL | .LSR | .ROL | .ROR => [.N, .Z, .C]
  | .BIT => [.N, .V, .Z]
  | .CMP | .CPX | .CPY => [.N, .Z, .C]
  | .INC | .DEC | .INX | .INY | .DEX | .DEY => [.N, .Z]
  | .LDA | .LDX | .LDY | .TAX | .TAY | .TXA | .TYA | .TSX | .PLA => [.N, .Z]
  | .CLC | .SEC => [.C]
  | .CLI | .SEI => [.I]
  | .CLD | .SED => [.D]
  | .CLV => [.V]
  | .BRK => [.I]
  | .PLP | .RTI => [.N, .V, .D, .I, .Z, .C]
  | .STA | .STX | .STY | .TXS | .PHA | .PHP | .JMP | .JSR | .RTS => []
  | .BCC | .BCS | .BEQ | .BMI | .BNE | .BPL | .BVC | .BVS | .NOP => []

/-- The instructions that write A (10_state.md R16). -/
def writesA (i : Instr) : Bool :=
  match i.mnemonic with
  | .ADC | .SBC | .AND | .ORA | .EOR | .LDA | .TXA | .TYA | .PLA => true
  | .ASL | .LSR | .ROL | .ROR => i.mode == .accumulator
  | _ => false

/-- The instructions that write X (10_state.md R17). -/
def writesX (i : Instr) : Bool := [Mnemonic.LDX, .TAX, .TSX, .INX, .DEX].contains i.mnemonic

/-- The instructions that write Y (10_state.md R18). -/
def writesY (i : Instr) : Bool := [Mnemonic.LDY, .TAY, .INY, .DEY].contains i.mnemonic

/-- The instructions that move SP: TXS, the pushes and the pulls (10_state.md R19). -/
def writesSp (i : Instr) : Bool :=
  [Mnemonic.TXS, .PHA, .PHP, .PLA, .PLP, .JSR, .RTS, .BRK, .RTI].contains i.mnemonic

/-- The control transfers, which alone overwrite PC in the execute phase (10_state.md R20). -/
def transfersControl (i : Instr) : Bool :=
  [Mnemonic.JMP, .JSR, .RTS, .BRK, .RTI, .BCC, .BCS, .BEQ, .BMI, .BNE, .BPL, .BVC, .BVS].contains i.mnemonic

/-- The instructions that write memory: the stores, the read-modify-writes in a memory mode
(40_pipeline_addressing.md R117), and the pushes (20_memory.md R55). -/
def writesMemory (i : Instr) : Bool :=
  match i.mnemonic with
  | .STA | .STX | .STY | .INC | .DEC => true
  | .ASL | .LSR | .ROL | .ROR => i.mode != .accumulator
  | .PHA | .PHP | .JSR | .BRK => true
  | _ => false

/-- The stack addresses an instruction pushes to, in order: `0x0100 | SP`, then each next lower one
modulo 256 (20_memory.md R55, R57). -/
def pushedTo (i : Instr) (s : State) : List Word :=
  match i.mnemonic with
  | .PHA | .PHP => [stackAddr s.sp]
  | .JSR => [stackAddr s.sp, stackAddr (s.sp - 1)]
  | .BRK => [stackAddr s.sp, stackAddr (s.sp - 1), stackAddr (s.sp - 2)]
  | _ => []

/-! ### The opcode map -/

/-- A cell of the opcode map: mnemonic, mode, base cycles; none for an undefined opcode. -/
abbrev MapCell := Option (Mnemonic × AddressingMode × Nat)

/-- Row 0x of the opcode map (30_encoding.md R87). -/
def mapRow0 : List MapCell :=
  [some (.BRK, .implied, 7), some (.ORA, .indexedIndirect, 6), none, none, none,
   some (.ORA, .zeroPage, 3), some (.ASL, .zeroPage, 5), none, some (.PHP, .implied, 3),
   some (.ORA, .immediate, 2), some (.ASL, .accumulator, 2), none, none, some (.ORA, .absolute, 4),
   some (.ASL, .absolute, 6), none]

/-- Row 1x of the opcode map (30_encoding.md R87). -/
def mapRow1 : List MapCell :=
  [some (.BPL, .relative, 2), some (.ORA, .indirectIndexed, 5), none, none, none,
   some (.ORA, .zeroPageX, 4), some (.ASL, .zeroPageX, 6), none, some (.CLC, .implied, 2),
   some (.ORA, .absoluteY, 4), none, none, none, some (.ORA, .absoluteX, 4), some (.ASL, .absoluteX, 7),
   none]

/-- Row 2x of the opcode map (30_encoding.md R87). -/
def mapRow2 : List MapCell :=
  [some (.JSR, .absolute, 6), some (.AND, .indexedIndirect, 6), none, none, some (.BIT, .zeroPage, 3),
   some (.AND, .zeroPage, 3), some (.ROL, .zeroPage, 5), none, some (.PLP, .implied, 4),
   some (.AND, .immediate, 2), some (.ROL, .accumulator, 2), none, some (.BIT, .absolute, 4),
   some (.AND, .absolute, 4), some (.ROL, .absolute, 6), none]

/-- Row 3x of the opcode map (30_encoding.md R87). -/
def mapRow3 : List MapCell :=
  [some (.BMI, .relative, 2), some (.AND, .indirectIndexed, 5), none, none, none,
   some (.AND, .zeroPageX, 4), some (.ROL, .zeroPageX, 6), none, some (.SEC, .implied, 2),
   some (.AND, .absoluteY, 4), none, none, none, some (.AND, .absoluteX, 4), some (.ROL, .absoluteX, 7),
   none]

/-- Row 4x of the opcode map (30_encoding.md R87). -/
def mapRow4 : List MapCell :=
  [some (.RTI, .implied, 6), some (.EOR, .indexedIndirect, 6), none, none, none,
   some (.EOR, .zeroPage, 3), some (.LSR, .zeroPage, 5), none, some (.PHA, .implied, 3),
   some (.EOR, .immediate, 2), some (.LSR, .accumulator, 2), none, some (.JMP, .absolute, 3),
   some (.EOR, .absolute, 4), some (.LSR, .absolute, 6), none]

/-- Row 5x of the opcode map (30_encoding.md R87). -/
def mapRow5 : List MapCell :=
  [some (.BVC, .relative, 2), some (.EOR, .indirectIndexed, 5), none, none, none,
   some (.EOR, .zeroPageX, 4), some (.LSR, .zeroPageX, 6), none, some (.CLI, .implied, 2),
   some (.EOR, .absoluteY, 4), none, none, none, some (.EOR, .absoluteX, 4), some (.LSR, .absoluteX, 7),
   none]

/-- Row 6x of the opcode map (30_encoding.md R87). -/
def mapRow6 : List MapCell :=
  [some (.RTS, .implied, 6), some (.ADC, .indexedIndirect, 6), none, none, none,
   some (.ADC, .zeroPage, 3), some (.ROR, .zeroPage, 5), none, some (.PLA, .implied, 4),
   some (.ADC, .immediate, 2), some (.ROR, .accumulator, 2), none, some (.JMP, .indirect, 5),
   some (.ADC, .absolute, 4), some (.ROR, .absolute, 6), none]

/-- Row 7x of the opcode map (30_encoding.md R87). -/
def mapRow7 : List MapCell :=
  [some (.BVS, .relative, 2), some (.ADC, .indirectIndexed, 5), none, none, none,
   some (.ADC, .zeroPageX, 4), some (.ROR, .zeroPageX, 6), none, some (.SEI, .implied, 2),
   some (.ADC, .absoluteY, 4), none, none, none, some (.ADC, .absoluteX, 4), some (.ROR, .absoluteX, 7),
   none]

/-- Row 8x of the opcode map (30_encoding.md R87). -/
def mapRow8 : List MapCell :=
  [none, some (.STA, .indexedIndirect, 6), none, none, some (.STY, .zeroPage, 3),
   some (.STA, .zeroPage, 3), some (.STX, .zeroPage, 3), none, some (.DEY, .implied, 2), none,
   some (.TXA, .implied, 2), none, some (.STY, .absolute, 4), some (.STA, .absolute, 4),
   some (.STX, .absolute, 4), none]

/-- Row 9x of the opcode map (30_encoding.md R87). -/
def mapRow9 : List MapCell :=
  [some (.BCC, .relative, 2), some (.STA, .indirectIndexed, 6), none, none, some (.STY, .zeroPageX, 4),
   some (.STA, .zeroPageX, 4), some (.STX, .zeroPageY, 4), none, some (.TYA, .implied, 2),
   some (.STA, .absoluteY, 5), some (.TXS, .implied, 2), none, none, some (.STA, .absoluteX, 5), none,
   none]

/-- Row Ax of the opcode map (30_encoding.md R87). -/
def mapRowA : List MapCell :=
  [some (.LDY, .immediate, 2), some (.LDA, .indexedIndirect, 6), some (.LDX, .immediate, 2), none,
   some (.LDY, .zeroPage, 3), some (.LDA, .zeroPage, 3), some (.LDX, .zeroPage, 3), none,
   some (.TAY, .implied, 2), some (.LDA, .immediate, 2), some (.TAX, .implied, 2), none,
   some (.LDY, .absolute, 4), some (.LDA, .absolute, 4), some (.LDX, .absolute, 4), none]

/-- Row Bx of the opcode map (30_encoding.md R87). -/
def mapRowB : List MapCell :=
  [some (.BCS, .relative, 2), some (.LDA, .indirectIndexed, 5), none, none, some (.LDY, .zeroPageX, 4),
   some (.LDA, .zeroPageX, 4), some (.LDX, .zeroPageY, 4), none, some (.CLV, .implied, 2),
   some (.LDA, .absoluteY, 4), some (.TSX, .implied, 2), none, some (.LDY, .absoluteX, 4),
   some (.LDA, .absoluteX, 4), some (.LDX, .absoluteY, 4), none]

/-- Row Cx of the opcode map (30_encoding.md R87). -/
def mapRowC : List MapCell :=
  [some (.CPY, .immediate, 2), some (.CMP, .indexedIndirect, 6), none, none, some (.CPY, .zeroPage, 3),
   some (.CMP, .zeroPage, 3), some (.DEC, .zeroPage, 5), none, some (.INY, .implied, 2),
   some (.CMP, .immediate, 2), some (.DEX, .implied, 2), none, some (.CPY, .absolute, 4),
   some (.CMP, .absolute, 4), some (.DEC, .absolute, 6), none]

/-- Row Dx of the opcode map (30_encoding.md R87). -/
def mapRowD : List MapCell :=
  [some (.BNE, .relative, 2), some (.CMP, .indirectIndexed, 5), none, none, none,
   some (.CMP, .zeroPageX, 4), some (.DEC, .zeroPageX, 6), none, some (.CLD, .implied, 2),
   some (.CMP, .absoluteY, 4), none, none, none, some (.CMP, .absoluteX, 4), some (.DEC, .absoluteX, 7),
   none]

/-- Row Ex of the opcode map (30_encoding.md R87). -/
def mapRowE : List MapCell :=
  [some (.CPX, .immediate, 2), some (.SBC, .indexedIndirect, 6), none, none, some (.CPX, .zeroPage, 3),
   some (.SBC, .zeroPage, 3), some (.INC, .zeroPage, 5), none, some (.INX, .implied, 2),
   some (.SBC, .immediate, 2), some (.NOP, .implied, 2), none, some (.CPX, .absolute, 4),
   some (.SBC, .absolute, 4), some (.INC, .absolute, 6), none]

/-- Row Fx of the opcode map (30_encoding.md R87). -/
def mapRowF : List MapCell :=
  [some (.BEQ, .relative, 2), some (.SBC, .indirectIndexed, 5), none, none, none,
   some (.SBC, .zeroPageX, 4), some (.INC, .zeroPageX, 6), none, some (.SED, .implied, 2),
   some (.SBC, .absoluteY, 4), none, none, none, some (.SBC, .absoluteX, 4), some (.INC, .absoluteX, 7),
   none]

/-- The opcode map by opcode value (30_encoding.md R87). -/
def opcodeMap : List MapCell :=
  mapRow0 ++ mapRow1 ++ mapRow2 ++ mapRow3 ++ mapRow4 ++ mapRow5 ++ mapRow6 ++ mapRow7 ++
  mapRow8 ++ mapRow9 ++ mapRowA ++ mapRowB ++ mapRowC ++ mapRowD ++ mapRowE ++ mapRowF

/-! ### Comparing two machines -/

/-- The same machine with another stored Decimal flag. -/
def withDecimal (d : Bool) (s : State) : State := { s with p := { s.p with d := d } }

/-- The same machine with other stored Break and unused bits. -/
def withBreakBits (b u : Bool) (s : State) : State := { s with p := { s.p with b := b, u := u } }

/-! ### Cycle counts (70_reset_and_hazards.md R240) -/

/-- The count of a read-modify-write instruction, by mode. -/
def modifyCycles : AddressingMode → Nat
  | .accumulator => 2
  | .zeroPage => 5
  | .zeroPageX => 6
  | .absolute => 6
  | .absoluteX => 7
  | _ => 0

/-- The counts by mode and mnemonic of R240. -/
def cyclesOf (m : Mnemonic) (mode : AddressingMode) : Nat :=
  match m with
  | .PHA | .PHP => 3
  | .PLA | .PLP => 4
  | .RTS | .RTI => 6
  | .BRK => 7
  | .JSR => 6
  | .JMP => if mode = .indirect then 5 else 3
  | .INC | .DEC | .ASL | .LSR | .ROL | .ROR => modifyCycles mode
  | _ =>
    match mode with
    | .implied | .accumulator | .immediate | .relative => 2
    | .zeroPage => 3
    | .zeroPageX | .zeroPageY | .absolute => 4
    | .absoluteX | .absoluteY => if m = .STA then 5 else 4
    | .indirect => 5
    | .indexedIndirect => 6
    | .indirectIndexed => if m = .STA then 6 else 5

/-! ### The loader's input -/

/-- The bytes of a cartridge image: header, trainer, program banks, character banks, and whatever
follows (20_memory.md R62). -/
def image (header trainer : List Byte) (prg chr : List (List Byte)) (extra : List Byte) : List Byte :=
  header ++ trainer ++ prg.flatten ++ chr.flatten ++ extra

/-- The number of bytes the loader needs (20_memory.md R62). -/
def imageSize (h : Header) : Nat :=
  16 + (if h.flags6.getLsbD 2 then 512 else 0) + h.prgCount.toNat * 16384 + h.chrCount.toNat * 8192

end Sys2Proof.Spec
end

