-- ==== Sys2Proof/Certificates/Slice0/Obligations.lean ====
section
/-! DEFINITION. The statements for the provers. Each formalises the rule of the spec its docstring
names, or is derived from the sections it names. -/

open Sys2Proof
open Sys2Proof.Machine
open Sys2Proof.Spec

/-! ### Encoding -/

/-- Words written out from the opcode map decode to the instructions they stand for (30_encoding.md R87). -/
def Obligations.DecodesWrittenOutWords : Prop :=
  decode [0b01100101, 0b10101010] = .ok (.adcZp 0xAA) [] ∧
  decode [0b11101001, 0b00000011] = .ok (.sbcImm 3) [] ∧
  decode [0b11111110, 0b00110100, 0b00010010] = .ok (.incAbx 0x1234) [] ∧
  decode [0b00101100, 0b00000000, 0b00000010] = .ok (.bitAbs 0x0200) [] ∧
  decode [0b11000001, 0b10000000] = .ok (.cmpIzx 0x80) [] ∧
  decode [0b01101010] = .ok .rorAcc [] ∧
  decode [0b11010000, 0b11111011] = .ok (.bne (-5)) [] ∧
  decode [0b10110110, 0b11111111] = .ok (.ldxZpy 0xFF) [] ∧
  decode [0b10010001, 0b00010000] = .ok (.staIzy 0x10) [] ∧
  decode [0b10011010] = .ok .txs [] ∧
  decode [0b00001000] = .ok .php [] ∧
  decode [0b01101100, 0b11111111, 0b00000010] = .ok (.jmpInd 0x02FF) [] ∧
  decode [0b00100000, 0b00010000, 0b10000000] = .ok (.jsr 0x8010) [] ∧
  decode [0b00000000] = .ok .brk [] ∧
  decode [0b11101010] = .ok .nop [] ∧
  decode [0b00000010] = .rejected (.undefinedOpcode 2)

/-- Decoding the encoding of any well-formed instruction gives it back, whatever bytes follow. -/
def Obligations.DecodeEncodeRoundTrip : Prop :=
  ∀ (i : Instr) (rest : List Byte), i.wellFormed = true → decode (encode i ++ rest) = .ok i rest

/-- Whatever bytes decode are the encoding of the well-formed instruction they decode to, and the rest. -/
def Obligations.EncodeDecodeRoundTrip : Prop :=
  ∀ (bytes : List Byte) (i : Instr) (rest : List Byte), decode bytes = .ok i rest →
    i.wellFormed = true ∧ bytes = encode i ++ rest

/-- R88: every opcode value gives a well-formed instruction or "undefined", 151 and 105 of them. -/
def Obligations.DecodeTotalWithExactly151Opcodes : Prop :=
  undefinedOpcodes.Nodup ∧ undefinedOpcodes.length = 105 ∧ 256 - undefinedOpcodes.length = 151 ∧
  ∀ (op b1 b2 : Byte) (rest : List Byte),
    (op ∈ undefinedOpcodes → decode (op :: b1 :: b2 :: rest) = .rejected (.undefinedOpcode op)) ∧
    (op ∉ undefinedOpcodes →
      ∃ i after, decode (op :: b1 :: b2 :: rest) = .ok i after ∧ i.wellFormed = true ∧ i.opcode = op)

/-- R87: the decoder agrees with every cell of the opcode map, whatever bytes follow the opcode. -/
def Obligations.OpcodeMap : Prop :=
  opcodeMap.length = 256 ∧ ∀ (op b1 b2 : Byte) (rest : List Byte),
    match opcodeMap[op.toNat]? with
    | some (some (mnemonic, mode, cycles)) =>
      ∃ i after, decode (op :: b1 :: b2 :: rest) = .ok i after ∧
        i.mnemonic = mnemonic ∧ i.mode = mode ∧ i.cycles = cycles
    | _ => decode (op :: b1 :: b2 :: rest) = .rejected (.undefinedOpcode op)

/-- R240: the base cycle count of every instruction, by mode and mnemonic. -/
def Obligations.BaseCycleCounts : Prop :=
  ∀ i : Instr, i.cycles = cyclesOf i.mnemonic i.mode

/-! ### The step -/

/-- When the bytes at PC decode to an instruction, a step is its execution at the state after the fetch
of those bytes, and a next state returns the base cycle count (R100, R119). -/
def Obligations.StepRunsTheDecodedInstruction : Prop :=
  ∀ (s t : State) (bytes : List Byte) (i : Instr),
    s.fault = none → s.interruptDue = false → decode bytes = .ok i [] → Fetches bytes s t →
    step s = match exec i t with
      | .next u => .next { u with stepCycles := i.cycles }
      | .fault f => .fault f
      | .refused r => .refused r

/-- R206: an undefined opcode ends the step in `UnimplementedOpcode(op, pc0)`, every register as before
the step, the log longer by the opcode read only; and that fault is raised by those opcodes only. -/
def Obligations.UndefinedOpcodeFaults : Prop :=
  (∀ (s : State) (op : Byte), s.fault = none → s.interruptDue = false → s.busRead s.pc = some op →
    op ∈ undefinedOpcodes →
    step s = .fault (.unimplementedOpcode op s.pc
      { s with fault := some (.unimplementedOpcode op s.pc), log := readEvent s.pc op :: s.log })) ∧
  (∀ (s t : State) (op : Byte) (pc : Word), step s = .fault (.unimplementedOpcode op pc t) →
    op ∈ undefinedOpcodes ∧ pc = s.pc ∧ s.busRead s.pc = some op)

/-- A fetch that no program bank backs ends the step in `MissingPrgBank(PC)`; the fetches before it
stand (R44, R45, R123). That the failed read logs nothing is the model's choice (log 6, DEDUCED). -/
def Obligations.MissingBankStopsTheFetch : Prop :=
  ∀ (s t : State) (bytes : List Byte), s.fault = none → s.interruptDue = false →
    decode bytes = .rejected .truncated → Fetches bytes s t → t.busRead t.pc = none →
    step s = missingBank t.pc t

/-- A machine that holds a fault takes no further step (R33). -/
def Obligations.FaultedMachineTakesNoStep : Prop :=
  ∀ (s : State) (c : FaultCause), s.fault = some c → step s = .fault (.alreadyFaulted c)

/-- R208: no step raises `UnimplementedSemantics`, and none is refused. -/
def Obligations.EveryDecodedInstructionHasAMeaning : Prop :=
  ∀ s : State, (∀ r, step s ≠ .refused r) ∧ (∀ op pc t, step s ≠ .fault (.unimplementedSemantics op pc t))

/-- The only fault of an executing instruction is `MissingPrgBank` of a program-ROM address, with the
fault recorded and everything the step cannot change kept (R50, R123, R211). -/
def Obligations.ExecutionFaultsOnlyOnMissingBanks : Prop :=
  ∀ (i : Instr) (s : State) (f : Fault), exec i s = .fault f →
    ∃ addr t, f = .missingPrgBank addr t ∧ 0x8000 ≤ addr.toNat ∧ s.busRead addr = none ∧
      t.fault = some (.missingPrgBank addr) ∧ t.cart = s.cart ∧ t.params = s.params ∧
      ∃ events, t.log = events ++ s.log

/-- Every instruction completes in every state whose two program-ROM windows have a bank (R50). -/
def Obligations.EveryInstructionCompletesWhenRomIsBacked : Prop :=
  ∀ (i : Instr) (s : State), s.romBacked = true → ∃ t, exec i s = .next t

/-! ### The bus -/

/-- R42: the address decode. -/
def Obligations.AddressDecode : Prop :=
  ∀ addr : Word,
    (addr.toNat < 0x2000 → busTarget addr = .ram (addr.toNat % 0x800)) ∧
    (0x2000 ≤ addr.toNat → addr.toNat < 0x4000 → busTarget addr = .io (BitVec.ofNat 3 (addr.toNat % 8))) ∧
    (0x4000 ≤ addr.toNat → addr.toNat < 0x4020 → busTarget addr = .apuStub) ∧
    (0x4020 ≤ addr.toNat → addr.toNat < 0x6000 → busTarget addr = .expStub) ∧
    (0x6000 ≤ addr.toNat → addr.toNat < 0x8000 → busTarget addr = .battStub) ∧
    (0x8000 ≤ addr.toNat → addr.toNat < 0xC000 → busTarget addr = .prg 0 (addr.toNat % 0x4000)) ∧
    (0xC000 ≤ addr.toNat → busTarget addr = .prg 1 (addr.toNat % 0x4000))

/-- Derived from R43, R69 and R70: a RAM write is seen through all four mirrors, changes no other RAM byte
and nothing else but the log; RAM reads give the stored byte. That the event of a mirrored access carries
the address before mirroring is the model's choice (log 6, DEDUCED). -/
def Obligations.RamWriteIsSeenThroughEveryMirror : Prop :=
  ∀ (s : State) (addr : Word) (v : Byte), addr.toNat < 0x2000 →
    read8 addr s = .ok (s.ram.get (addr.toNat % 0x800))
      { s with log := .read addr (s.ram.get (addr.toNat % 0x800)) :: s.log } ∧
    (∀ k : Nat, k < 4 →
      (write8 addr v s).busRead (BitVec.ofNat 16 (addr.toNat % 0x800 + k * 0x800)) = some v) ∧
    (∀ other : Nat, other ≠ addr.toNat % 0x800 → (write8 addr v s).ram.get other = s.ram.get other) ∧
    ∃ ram, write8 addr v s = { s with ram := ram, log := .write addr v :: s.log }

/-- Derived from R44, R45 and R69: what a program-ROM address reads as. That a failed read logs nothing is
the model's choice (log 6, DEDUCED). -/
def Obligations.ProgramRomReads : Prop :=
  ∀ (s : State) (addr : Word), 0x8000 ≤ addr.toNat →
    (addr.toNat < 0xC000 → ∀ bank, s.cart.prg[0]? = some bank →
      read8 addr s = readsBank addr bank s) ∧
    (0xC000 ≤ addr.toNat → ∀ bank, s.cart.prg[1]? = some bank →
      read8 addr s = readsBank addr bank s) ∧
    (0xC000 ≤ addr.toNat → ∀ bank, s.cart.prg = [bank] → s.params.prgMirrorSingle = true →
      read8 addr s = readsBank addr bank s) ∧
    (0xC000 ≤ addr.toNat → ∀ bank, s.cart.prg = [bank] → s.params.prgMirrorSingle = false →
      read8 addr s = .stop (.missingPrgBank addr) s) ∧
    (s.cart.prg = [] → read8 addr s = .stop (.missingPrgBank addr) s)

/-- R46, R48, R49: writes to program ROM and to the stubs change nothing but the log; what the stubs
read as. -/
def Obligations.RomAndStubAccesses : Prop :=
  ∀ (s : State) (addr : Word) (v : Byte),
    (0x8000 ≤ addr.toNat → write8 addr v s = { s with log := .droppedWrite addr v .romWrite :: s.log }) ∧
    (0x4000 ≤ addr.toNat → addr.toNat < 0x8000 →
      write8 addr v s = { s with log := .droppedWrite addr v .stubWrite :: s.log }) ∧
    (0x4000 ≤ addr.toNat → addr.toNat < 0x4020 →
      read8 addr s = .ok 0x00 { s with log := .read addr 0x00 :: s.log }) ∧
    (0x4020 ≤ addr.toNat → addr.toNat < 0x8000 →
      read8 addr s = .ok s.params.stubRead { s with log := .read addr s.params.stubRead :: s.log })

/-- R47: the I/O window. A read gives the oracle's byte for the register and the log so far, whatever
that byte is, and is logged; a write is dropped and reported for a read-only register and is an event
otherwise; nothing else changes. -/
def Obligations.IoWindowAccesses : Prop :=
  ∀ (s : State) (addr : Word) (v : Byte) (r : IoReg),
    0x2000 ≤ addr.toNat → addr.toNat < 0x4000 → r = BitVec.ofNat 3 (addr.toNat % 8) →
    read8 addr s = .ok (Config.ioRead r s.log) { s with log := .ioRead r (Config.ioRead r s.log) :: s.log } ∧
    (r ∈ s.params.ioReadOnly → write8 addr v s = { s with log := .droppedWrite addr v .readOnlyIo :: s.log }) ∧
    (r ∉ s.params.ioReadOnly → write8 addr v s = { s with log := .ioWrite r v :: s.log })

/-- R51: a word is read low byte first, its high byte at `addr + 1` modulo 65536. -/
def Obligations.WordsAreLittleEndian : Prop :=
  ∀ (s : State) (addr next : Word) (lo hi : Byte), next = BitVec.ofNat 16 ((addr.toNat + 1) % 65536) →
    s.busRead addr = some lo → (afterRead s addr lo).busRead next = some hi →
    readWord addr s = .ok (word hi lo) (afterRead (afterRead s addr lo) next hi)

/-- R55 to R57: push writes then decrements, pull increments then reads, each modulo 256; a word is pushed
high byte first, and pulling it back gives it and restores SP, for every starting SP. -/
def Obligations.StackPushAndPull : Prop :=
  ∀ (s : State) (v : Byte) (w : Word),
    push v s = pushed v s ∧
    pull s = .ok (pullByte s 1) { s with sp := s.sp + 1, log := pullEvent s 1 :: s.log } ∧
    push16 w s = pushed (lowOf w) (pushed (highOf w) s) ∧
    pull16 s = .ok (word (pullByte s 2) (pullByte s 1))
      { s with sp := s.sp + 2, log := pullEvent s 2 :: pullEvent s 1 :: s.log } ∧
    ∃ t, pull16 (push16 w s) = .ok w t ∧ t.sp = s.sp

/-- R107 to R112, R114, R115: the effective address of every memory mode, and the pointer reads it
makes. -/
def Obligations.EffectiveAddresses : Prop :=
  ∀ (s : State) (m : MemMode), resolve m s = .ok (effectiveAddress s m) (afterResolve s m)

/-- R22: the status register as a byte, and back. -/
def Obligations.StatusByteLayout : Prop :=
  (∀ p : Status, p.toByte.toNat =
    p.n.toNat * 128 + p.v.toNat * 64 + p.u.toNat * 32 + p.b.toNat * 16 + p.d.toNat * 8 + p.i.toNat * 4 +
      p.z.toNat * 2 + p.c.toNat) ∧
  (∀ p : Status, Status.ofByte p.toByte = p) ∧ (∀ w : Byte, (Status.ofByte w).toByte = w)

/-! ### What each instruction does -/

/-- R165 to R167: LDA, LDX, LDY. -/
def Obligations.LoadResults : Prop :=
  OperandResult ldaForm ldaRows (fun v s => { s with a := v, p := setNZ s.p v }) ∧
  OperandResult ldxForm ldxRows (fun v s => { s with x := v, p := setNZ s.p v }) ∧
  OperandResult ldyForm ldyRows (fun v s => { s with y := v, p := setNZ s.p v })

/-- R168 to R170: STA, STX, STY. -/
def Obligations.StoreResults : Prop :=
  StoreResult staForm staRows State.a ∧ StoreResult stxForm stxRows State.x ∧ StoreResult styForm styRows State.y

/-- R171 to R176: the register transfers. -/
def Obligations.TransferResults : Prop :=
  ImpliedResult .tax 0xAA 2 (fun s => { s with x := s.a, p := setNZ s.p s.a }) ∧
  ImpliedResult .tay 0xA8 2 (fun s => { s with y := s.a, p := setNZ s.p s.a }) ∧
  ImpliedResult .txa 0x8A 2 (fun s => { s with a := s.x, p := setNZ s.p s.x }) ∧
  ImpliedResult .tya 0x98 2 (fun s => { s with a := s.y, p := setNZ s.p s.y }) ∧
  ImpliedResult .tsx 0xBA 2 (fun s => { s with x := s.sp, p := setNZ s.p s.sp }) ∧
  ImpliedResult .txs 0x9A 2 (fun s => { s with sp := s.x })

/-- R131: ADC. -/
def Obligations.AdcResult : Prop :=
  OperandResult adcForm adcRows fun m s =>
    let r : Byte := BitVec.ofNat 8 (adcSum s m % 256)
    sumInto (adcSum s m) (decide (((s.a ^^^ r) &&& (m ^^^ r) &&& 0x80) ≠ 0)) s

/-- R132: SBC. -/
def Obligations.SbcResult : Prop :=
  OperandResult sbcForm sbcRows fun m s =>
    let r : Byte := BitVec.ofNat 8 (sbcSum s m % 256)
    sumInto (sbcSum s m) (decide (((s.a ^^^ r) &&& (s.a ^^^ m) &&& 0x80) ≠ 0)) s

/-- R131, R132: the overflow flag means that the signed result does not fit, and SBC's carry that there
was no borrow. -/
def Obligations.OverflowAndBorrowMeaning : Prop :=
  ∀ (a m : Byte) (c : Bool),
    ((addWithCarry a m c).overflow = true ↔
      a.toInt + m.toInt + (if c then 1 else 0) < -128 ∨ 127 < a.toInt + m.toInt + (if c then 1 else 0)) ∧
    ((subWithBorrow a m c).overflow = true ↔
      a.toInt - m.toInt - (if c then 0 else 1) < -128 ∨ 127 < a.toInt - m.toInt - (if c then 0 else 1)) ∧
    ((subWithBorrow a m c).carry = true ↔ m.toNat + (if c then 0 else 1) ≤ a.toNat) ∧
    (subWithBorrow a m c).value = BitVec.ofInt 8 ((a.toNat : Int) - (m.toNat : Int) - (if c then 0 else 1))

/-- R140 to R143: AND, ORA, EOR, BIT. -/
def Obligations.LogicAndBitResults : Prop :=
  OperandResult andForm andRows (fun m s => { s with a := s.a &&& m, p := setNZ s.p (s.a &&& m) }) ∧
  OperandResult oraForm oraRows (fun m s => { s with a := s.a ||| m, p := setNZ s.p (s.a ||| m) }) ∧
  OperandResult eorForm eorRows (fun m s => { s with a := s.a ^^^ m, p := setNZ s.p (s.a ^^^ m) }) ∧
  OperandResult bitForm bitRows (fun m s =>
    { s with p := { s.p with n := m.getLsbD 7, v := m.getLsbD 6, z := decide (s.a &&& m = 0) } })

/-- R144 to R147: CMP, CPX, CPY. -/
def Obligations.CompareResults : Prop :=
  OperandResult cmpForm cmpRows (fun m s => { s with p := compareSpec s.a m s.p }) ∧
  OperandResult cpxForm cpxRows (fun m s => { s with p := compareSpec s.x m s.p }) ∧
  OperandResult cpyForm cpyRows (fun m s => { s with p := compareSpec s.y m s.p })

/-- R133 to R138: INC, DEC, INX, INY, DEX, DEY. -/
def Obligations.IncrementAndDecrementResults : Prop :=
  ModifyResult incForm incRows incSpec ∧ ModifyResult decForm decRows decSpec ∧
  ImpliedResult .inx 0xE8 2 (fun s => { s with x := (incSpec s.x s.p).1, p := (incSpec s.x s.p).2 }) ∧
  ImpliedResult .iny 0xC8 2 (fun s => { s with y := (incSpec s.y s.p).1, p := (incSpec s.y s.p).2 }) ∧
  ImpliedResult .dex 0xCA 2 (fun s => { s with x := (decSpec s.x s.p).1, p := (decSpec s.x s.p).2 }) ∧
  ImpliedResult .dey 0x88 2 (fun s => { s with y := (decSpec s.y s.p).1, p := (decSpec s.y s.p).2 })

/-- R150 to R154: ASL, LSR, ROL, ROR, in the Accumulator and the memory modes. -/
def Obligations.ShiftAndRotateResults : Prop :=
  (AccumulatorResult .aslAcc 0x0A aslSpec ∧ ModifyResult aslForm aslRows aslSpec) ∧
  (AccumulatorResult .lsrAcc 0x4A lsrSpec ∧ ModifyResult lsrForm lsrRows lsrSpec) ∧
  (AccumulatorResult .rolAcc 0x2A rolSpec ∧ ModifyResult rolForm rolRows rolSpec) ∧
  (AccumulatorResult .rorAcc 0x6A rorSpec ∧ ModifyResult rorForm rorRows rorSpec)

/-- R155 to R163: the eight branches. -/
def Obligations.BranchResults : Prop :=
  BranchResult .bcc 0x90 (fun p => !p.c) ∧ BranchResult .bcs 0xB0 (fun p => p.c) ∧
  BranchResult .beq 0xF0 (fun p => p.z) ∧ BranchResult .bne 0xD0 (fun p => !p.z) ∧
  BranchResult .bmi 0x30 (fun p => p.n) ∧ BranchResult .bpl 0x10 (fun p => !p.n) ∧
  BranchResult .bvc 0x50 (fun p => !p.v) ∧ BranchResult .bvs 0x70 (fun p => p.v)

/-- R181, R182: PHA and PHP; PHP's pushed copy has bits 4 and 5 set. -/
def Obligations.PushInstructionResults : Prop :=
  ImpliedResult .pha 0x48 3 (fun s => pushed s.a s) ∧
  ImpliedResult .php 0x08 3 (fun s => pushed (s.p.toByte ||| 0x30) s)

/-- R183, R184: PLA and PLP; PLP keeps B and U. -/
def Obligations.PullInstructionResults : Prop :=
  ImpliedResult .pla 0x68 4 (fun s => { s with
    sp := s.sp + 1, a := pullByte s 1, p := setNZ s.p (pullByte s 1), log := pullEvent s 1 :: s.log }) ∧
  ImpliedResult .plp 0x28 4 (fun s => { s with
    sp := s.sp + 1, p := pulledStatus s.p (pullByte s 1), log := pullEvent s 1 :: s.log }) ∧
  ∀ (p : Status) (w : Byte), (pulledStatus p w).toByte = (w &&& 0xCF) ||| (p.toByte &&& 0x30)

/-- Derived from R187, R113, R44, R45 and R123: JMP absolute, and JMP indirect with its pointer's page wrap
by `P_JMP_IND_WRAP`; a pointer byte that no bank backs ends the step there. That the failed read logs
nothing is the model's choice (log 6, DEDUCED). -/
def Obligations.JmpResults : Prop :=
  ∀ (s : State) (addr : Word),
    Encoded (.jmpAbs addr) .absolute 0x4C 3 [lowOf addr, highOf addr] ∧
    Encoded (.jmpInd addr) .indirect 0x6C 5 [lowOf addr, highOf addr] ∧
    exec (.jmpAbs addr) s = .next { s with pc := addr } ∧
    (s.busRead addr = none → exec (.jmpInd addr) s = missingBank addr s) ∧
    ∀ lo : Byte, s.busRead addr = some lo →
      (∀ hi : Byte, (afterRead s addr lo).busRead (jmpHigh s addr) = some hi →
        exec (.jmpInd addr) s =
          .next { afterRead (afterRead s addr lo) (jmpHigh s addr) hi with pc := word hi lo }) ∧
      ((afterRead s addr lo).busRead (jmpHigh s addr) = none →
        exec (.jmpInd addr) s = missingBank (jmpHigh s addr) (afterRead s addr lo))

/-- R188: JSR; PC is past the operand, so `PC - 1` is the address of its last byte. -/
def Obligations.JsrResult : Prop :=
  ∀ (s : State) (addr : Word),
    Encoded (.jsr addr) .absolute 0x20 6 [lowOf addr, highOf addr] ∧
    exec (.jsr addr) s = .next { pushed (lowOf (s.pc - 1)) (pushed (highOf (s.pc - 1)) s) with pc := addr }

/-- R189: RTS. -/
def Obligations.RtsResult : Prop :=
  ImpliedResult .rts 0x60 6 fun s => { s with
    sp := s.sp + 2, pc := word (pullByte s 2) (pullByte s 1) + 1, log := pullEvent s 2 :: pullEvent s 1 :: s.log }

/-- Derived from R191, R45 and R123: BRK, and what it leaves when no bank holds the vector. PC is `pc0 + 1`,
so `pc0 + 2` is pushed. That the failed vector read logs nothing is the model's choice (log 6, DEDUCED). -/
def Obligations.BrkResult : Prop :=
  Encoded .brk .implied 0x00 7 [] ∧ ∀ s : State,
    (∀ bank, s.mappedBank 1 = some bank →
      exec .brk s = .next (trapEntered (s.pc + 1) (s.p.toByte ||| 0x30) bank 0x3FFE s)) ∧
    (s.mappedBank 1 = none → exec .brk s = missingBank 0xFFFE (trapPushed (s.pc + 1) (s.p.toByte ||| 0x30) s))

/-- R192: RTI. -/
def Obligations.RtiResult : Prop :=
  ImpliedResult .rti 0x40 6 fun s => { s with
    sp := s.sp + 3
    p := pulledStatus s.p (pullByte s 1)
    pc := word (pullByte s 3) (pullByte s 2)
    log := pullEvent s 3 :: pullEvent s 2 :: pullEvent s 1 :: s.log }

/-- R195 to R202: the flag instructions and NOP. -/
def Obligations.FlagInstructionResults : Prop :=
  ImpliedResult .clc 0x18 2 (fun s => { s with p := { s.p with c := false } }) ∧
  ImpliedResult .sec 0x38 2 (fun s => { s with p := { s.p with c := true } }) ∧
  ImpliedResult .cli 0x58 2 (fun s => { s with p := { s.p with i := false } }) ∧
  ImpliedResult .sei 0x78 2 (fun s => { s with p := { s.p with i := true } }) ∧
  ImpliedResult .cld 0xD8 2 (fun s => { s with p := { s.p with d := false } }) ∧
  ImpliedResult .sed 0xF8 2 (fun s => { s with p := { s.p with d := true } }) ∧
  ImpliedResult .clv 0xB8 2 (fun s => { s with p := { s.p with v := false } }) ∧
  ImpliedResult .nop 0xEA 2 (fun s => s)

/-- An operand read that no program bank backs ends the instruction in `MissingPrgBank(ea)`, its pointer
reads kept and nothing else changed (R44, R45, R123). That the failed read logs nothing is the model's
choice (log 6, DEDUCED). -/
def Obligations.MissingBankStopsTheOperandRead : Prop :=
  (∀ form ∈ operandReaders, ∀ m i s, form (.memory m) = some i → operandValue s (.memory m) = none →
    exec i s = missingBank (effectiveAddress s m) (afterResolve s m)) ∧
  (∀ form ∈ modifiers, ∀ m i s, form m = some i → operandValue s (.memory m) = none →
    exec i s = missingBank (effectiveAddress s m) (afterResolve s m)) ∧
  (∀ form ∈ storers, ∀ m i s, form m = some i → s.params.storeReads = true →
    operandValue s (.memory m) = none → exec i s = missingBank (effectiveAddress s m) (afterResolve s m))

/-! ### What each instruction leaves unchanged -/

/-- R29: every flag but those of the summary's row keeps its value. -/
def Obligations.FlagFrame : Prop :=
  ∀ (i : Instr) (s t : State) (f : Flag), exec i s = .next t → f ∉ flagsWritten i.mnemonic →
    flagOf t.p f = flagOf s.p f

/-- R16 to R20: A, X, Y and SP are written only by the instructions the rules list, and PC only by the
control transfers (the fetch has moved it past the instruction). -/
def Obligations.RegisterFrame : Prop :=
  ∀ (i : Instr) (s t : State), exec i s = .next t →
    (writesA i = false → t.a = s.a) ∧ (writesX i = false → t.x = s.x) ∧ (writesY i = false → t.y = s.y) ∧
    (writesSp i = false → t.sp = s.sp) ∧ (transfersControl i = false → t.pc = s.pc)

/-- R32, R35, R36: no instruction changes the cartridge, the parameters, the fault, the returned count
or the interrupt inputs. -/
def Obligations.CartridgeAndInputsFrame : Prop :=
  ∀ (i : Instr) (s t : State), exec i s = .next t →
    t.cart = s.cart ∧ t.params = s.params ∧ t.fault = s.fault ∧ t.stepCycles = s.stepCycles ∧
    t.nmiPending = s.nmiPending ∧ t.irqLine = s.irqLine

/-- An instruction that writes no memory, and one that only pushes, leaves every byte but the stack
bytes it pushes to (none, for one that does not push). -/
def Obligations.MemoryFrameOfNonStoringAndPushing : Prop :=
  ∀ (i : Instr) (s t : State) (addr : Word), exec i s = .next t →
    (writesMemory i = false ∨ pushedTo i s ≠ []) →
    (∀ e ∈ pushedTo i s, busTarget addr ≠ busTarget e) → storedByte t addr = storedByte s addr

/-- A store or read-modify-write leaves every byte but the one behind its effective address. -/
def Obligations.MemoryFrameOfStoring : Prop :=
  ∀ form ∈ storers ++ modifiers, ∀ (m : MemMode) (i : Instr) (s s1 t : State) (ea addr : Word),
    form m = some i → resolve m s = .ok ea s1 → exec i s = .next t → busTarget addr ≠ busTarget ea →
    storedByte t addr = storedByte s addr

/-- R34: a step only appends to the event log. -/
def Obligations.LogIsAppendOnly : Prop :=
  ∀ s t : State, step s = .next t → ∃ events, t.log = events ++ s.log

/-! ### What cannot be observed -/

/-- R26: the Decimal flag influences nothing but the pushes of PHP and BRK: every other instruction
that does not itself write it runs alike with it set and clear. -/
def Obligations.DecimalFlagIsStorageOnly : Prop :=
  ∀ (i : Instr) (s t : State) (d : Bool),
    i.mnemonic ∉ [Mnemonic.PHP, .BRK, .SED, .CLD, .PLP, .RTI] → exec i s = .next t →
    exec i (withDecimal d s) = .next (withDecimal d t)

/-- R27: a program never observes the stored Break and unused bits: a step from a state with other ones
is the same step, and no step writes them. -/
def Obligations.BreakBitsAreUnobservable : Prop :=
  ∀ (s t : State) (b u : Bool), step s = .next t →
    t.p.b = s.p.b ∧ t.p.u = s.p.u ∧ step (withBreakBits b u s) = .next (withBreakBits b u t)

/-! ### Traps -/

/-- R215 to R218: with the extension, at a step boundary NMI, else an unmasked IRQ, is taken before the
fetch by the interrupt sequence, and a vector that no bank holds ends that step after the pushes (log 14;
the failed read logs nothing, log 6; DEDUCED); otherwise an instruction runs. -/
def Obligations.InterruptSequenceResult : Prop :=
  ∀ s : State, s.fault = none →
    (s.params.irqNmi = true → (s.nmiPending = true ∨ (s.irqLine = true ∧ s.p.i = false)) →
      (∀ bank, s.mappedBank 1 = some bank →
        step s = .next { trapEntered s.pc ((s.p.toByte &&& 0xEF) ||| 0x20) bank (interruptVectorOffset s) s with
          nmiPending := false, stepCycles := 7 }) ∧
      (s.mappedBank 1 = none →
        step s = missingBank (BitVec.ofNat 16 (0xC000 + interruptVectorOffset s))
          { trapPushed s.pc ((s.p.toByte &&& 0xEF) ||| 0x20) s with nmiPending := false })) ∧
    ((s.params.irqNmi = false ∨ (s.nmiPending = false ∧ (s.irqLine = false ∨ s.p.i = true))) →
      step s = runInstr exec s)

/-- JSR then RTS leaves PC just past the JSR and SP as it was, for every SP (R189). -/
def Obligations.JsrThenRts : Prop :=
  ∀ (s : State) (addr : Word), ∃ t, exec (.jsr addr) s = .next t ∧
    ∀ pc : Word, ∃ u, exec .rts { t with pc := pc } = .next u ∧ u.pc = s.pc ∧ u.sp = s.sp

/-- BRK then RTI restores P, SP and resumes one byte past the byte after BRK's opcode, for every SP and
P (R191, R192, R213). -/
def Obligations.BrkThenRti : Prop :=
  ∀ (s : State) (bank : Memory), s.mappedBank 1 = some bank → ∃ t, exec .brk s = .next t ∧ t.p.i = true ∧
    ∀ pc : Word, ∃ u, exec .rti { t with pc := pc } = .next u ∧ u.pc = s.pc + 1 ∧ u.sp = s.sp ∧ u.p = s.p

/-! ### Invariants, construction and loading -/

/-- Every step keeps the invariant: RAM and banks canonical and of their sizes, as many banks as the
header says, Break and unused bits 0, no fault. -/
def Obligations.StepKeepsInvariant : Prop :=
  ∀ s t : State, s.inv = true → step s = .next t → t.inv = true

/-- The reset state meets the invariant. -/
def Obligations.ResetMeetsInvariant : Prop := State.reset.inv = true

/-- R38, R230: the registers, fault, log and inputs after construction, on any cartridge, RAM and
parameters. -/
def Obligations.ConstructionValues : Prop :=
  ∀ (cart : Cartridge) (ram0 : Memory) (params : Params),
    let s := construct cart ram0 params
    s.a = 0 ∧ s.x = 0 ∧ s.y = 0 ∧ s.pc = 0 ∧ s.p.toByte = 0 ∧ s.sp = 0xFF ∧ s.ram = ram0 ∧ s.cart = cart ∧
    s.fault = none ∧ s.log = [] ∧ s.nmiPending = false ∧ s.irqLine = false

/-- R59: a header is accepted exactly when it has the magic and zero reserved bytes, and decodes field
by field. -/
def Obligations.HeaderValidation : Prop :=
  ∀ (h : List Byte) (hd : Header), h.length = 16 →
    (parseHeader h = some hd ↔
      h.take 4 = [0x4E, 0x45, 0x53, 0x1A] ∧ h.drop 11 = [0, 0, 0, 0, 0] ∧
      hd.prgCount = h.getD 4 0 ∧ hd.chrCount = h.getD 5 0 ∧ hd.flags6 = h.getD 6 0 ∧ hd.flags7 = h.getD 7 0 ∧
      hd.prgRamCount = h.getD 8 0 ∧ hd.flags9 = h.getD 9 0 ∧ hd.flags10 = h.getD 10 0) ∧
    hd.hasTrainer = hd.flags6.getLsbD 2 ∧ hd.hasBattery = hd.flags6.getLsbD 1

/-- R62: an image with the declared banks loads, the trainer discarded and what follows unread; one with
a good header and too few bytes is `LoadTruncated`, with a bad header `LoadBadHeader`. -/
def Obligations.CartridgeLoading : Prop :=
  (∀ (h trainer extra : List Byte) (prg chr : List (List Byte)) (hd : Header),
    h.length = 16 → parseHeader h = some hd →
    trainer.length = (if hd.flags6.getLsbD 2 then 512 else 0) →
    prg.length = hd.prgCount.toNat → chr.length = hd.chrCount.toNat →
    (∀ bank ∈ prg, bank.length = 16384) → (∀ bank ∈ chr, bank.length = 8192) →
    loadCartridge (image h trainer prg chr extra) =
      .ok ⟨hd, prg.map Memory.ofBytes, chr.map Memory.ofBytes⟩) ∧
  (∀ (bank : List Byte) (k : Nat), (Memory.ofBytes bank).get k = bank.getD k 0) ∧
  (∀ src : List Byte, src.length < 16 → loadCartridge src = .error .truncated) ∧
  (∀ src : List Byte, 16 ≤ src.length → parseHeader (src.take 16) = none →
    loadCartridge src = .error .badHeader) ∧
  (∀ (src : List Byte) (hd : Header), parseHeader (src.take 16) = some hd → src.length < imageSize hd →
    loadCartridge src = .error .truncated)

/-- A machine constructed on a loaded cartridge with a RAM of 2048 bytes meets the invariant (R62, R230). -/
def Obligations.PoweredOnMachineMeetsInvariant : Prop :=
  ∀ (src : List Byte) (ram0 : Memory) (params : Params) (s : State), ram0.wfBelow ramSize = true →
    powerOn src ram0 params = .ok s → s.inv = true
end

