-- ==== Sys2Proof/Laws/Memory.lean ====
section
/-! SUPPORT. The laws of byte storage: read after write, and the canonical form. -/

namespace Sys2Proof.Machine

theorem Memory.get_erase (m : Memory) (a k : Nat) :
    (m.erase a).get k = if k = a then Memory.fill else m.get k := by
  induction m with
  | nil => simp [Memory.erase, Memory.get]
  | cons c rest ih =>
    obtain ⟨j, v⟩ := c
    simp only [Memory.erase, Memory.get]
    split
    · subst j; rw [ih]; by_cases h : k = a
      · simp [h]
      · have : ¬ a = k := fun e => h e.symm
        simp [h, this]
    · rename_i hj
      simp only [Memory.get, ih]
      by_cases h : j = k
      · subst h; simp [hj]
      · simp [h]

theorem Memory.get_place (m : Memory) (a k : Nat) (b : Byte)
    (ha : ∀ c ∈ m, c.1 ≠ a) : (m.place a b).get k = if k = a then b else m.get k := by
  induction m with
  | nil =>
    simp only [Memory.place, Memory.get]
    by_cases h : a = k
    · simp [h]
    · have : ¬ k = a := fun e => h e.symm
      simp [h, this]
  | cons c rest ih =>
    obtain ⟨j, v⟩ := c
    have hj : j ≠ a := ha (j, v) (by simp)
    have ih := ih fun c hc => ha c (by simp [hc])
    simp only [Memory.place]
    split
    · simp only [Memory.get]
      by_cases h : a = k
      · simp [h]
      · have : ¬ k = a := fun e => h e.symm
        simp [h, this]
    · simp only [Memory.get, ih]
      by_cases h : j = k
      · subst h; simp [hj]
      · simp [h]

theorem Memory.erase_ne (m : Memory) (a : Nat) : ∀ c ∈ m.erase a, c.1 ≠ a := by
  induction m with
  | nil => simp [Memory.erase]
  | cons c rest ih =>
    obtain ⟨j, v⟩ := c
    simp only [Memory.erase]
    split
    · exact ih
    · intro c hc
      rcases List.mem_cons.mp hc with rfl | hc
      · assumption
      · exact ih c hc

/-- Read after write, in every memory. -/
theorem Memory.get_set (m : Memory) (a k : Nat) (b : Byte) :
    (m.set a b).get k = if k = a then b else m.get k := by
  simp only [Memory.set]
  split
  · rename_i hb; rw [Memory.get_erase, hb]
  · rw [Memory.get_place _ _ _ _ (m.erase_ne a), Memory.get_erase]
    by_cases h : k = a <;> simp [h]

@[simp] theorem Memory.get_set_same (m : Memory) (a : Nat) (b : Byte) : (m.set a b).get a = b := by
  simp [Memory.get_set]

theorem Memory.get_set_other (m : Memory) {a k : Nat} (b : Byte) (h : k ≠ a) :
    (m.set a b).get k = m.get k := by
  simp [Memory.get_set, h]

theorem Memory.risesFrom_mono {lo lo' : Nat} {m : Memory} (h : Memory.risesFrom lo m = true)
    (hle : lo' ≤ lo) : Memory.risesFrom lo' m = true := by
  cases m with
  | nil => rfl
  | cons c rest =>
    simp only [Memory.risesFrom, Bool.and_eq_true, decide_eq_true_eq] at h ⊢
    exact ⟨⟨by omega, h.1.2⟩, h.2⟩

theorem Memory.risesFrom_erase {lo : Nat} {m : Memory} (a : Nat) (h : Memory.risesFrom lo m = true) :
    Memory.risesFrom lo (m.erase a) = true := by
  induction m generalizing lo with
  | nil => rfl
  | cons c rest ih =>
    obtain ⟨j, v⟩ := c
    simp only [Memory.risesFrom, Bool.and_eq_true, decide_eq_true_eq] at h
    simp only [Memory.erase]
    split
    · exact Memory.risesFrom_mono (ih h.2) (by omega)
    · simp only [Memory.risesFrom, Bool.and_eq_true, decide_eq_true_eq]
      exact ⟨h.1, ih h.2⟩

theorem Memory.risesFrom_place {lo : Nat} {m : Memory} {a : Nat} {b : Byte}
    (h : Memory.risesFrom lo m = true) (ha : ∀ c ∈ m, c.1 ≠ a) (hlo : lo ≤ a) (hb : b ≠ Memory.fill) :
    Memory.risesFrom lo (m.place a b) = true := by
  induction m generalizing lo with
  | nil => simp [Memory.place, Memory.risesFrom, hlo, hb]
  | cons c rest ih =>
    obtain ⟨j, v⟩ := c
    have hj : j ≠ a := ha (j, v) (by simp)
    simp only [Memory.risesFrom, Bool.and_eq_true, decide_eq_true_eq] at h
    simp only [Memory.place]
    split
    · simp only [Memory.risesFrom, Bool.and_eq_true, decide_eq_true_eq]
      exact ⟨⟨hlo, hb⟩, ⟨by omega, h.1.2⟩, h.2⟩
    · simp only [Memory.risesFrom, Bool.and_eq_true, decide_eq_true_eq]
      exact ⟨h.1, ih h.2 (fun c hc => ha c (by simp [hc])) (by omega)⟩

/-- A write keeps the canonical form. -/
theorem Memory.wf_set {m : Memory} (a : Nat) (b : Byte) (h : m.wf = true) : (m.set a b).wf = true := by
  simp only [Memory.wf, Memory.set] at *
  split
  · exact Memory.risesFrom_erase a h
  · rename_i hb
    exact Memory.risesFrom_place (Memory.risesFrom_erase a h) (m.erase_ne a) (Nat.zero_le _) hb

theorem Memory.all_erase {p : Host.Cell → Bool} {m : Memory} (a : Nat) (h : m.all p = true) :
    (m.erase a).all p = true := by
  induction m with
  | nil => rfl
  | cons c rest ih =>
    obtain ⟨j, v⟩ := c
    simp only [List.all_cons, Bool.and_eq_true] at h
    simp only [Memory.erase]
    split
    · exact ih h.2
    · simp [h.1, ih h.2]

theorem Memory.all_place {p : Host.Cell → Bool} {m : Memory} {a : Nat} {b : Byte} (h : m.all p = true)
    (hp : p (a, b) = true) : (m.place a b).all p = true := by
  induction m with
  | nil => simp [Memory.place, hp]
  | cons c rest ih =>
    obtain ⟨j, v⟩ := c
    simp only [List.all_cons, Bool.and_eq_true] at h
    simp only [Memory.place]
    split
    · simp [hp, h.1, h.2]
    · simp [h.1, ih h.2]

/-- A write below the size keeps the canonical form of that size. -/
theorem Memory.wfBelow_set {size : Nat} {m : Memory} {a : Nat} (b : Byte) (h : m.wfBelow size = true)
    (ha : a < size) : (m.set a b).wfBelow size = true := by
  simp only [Memory.wfBelow, Bool.and_eq_true] at *
  refine ⟨Memory.wf_set a b h.1, ?_⟩
  simp only [Memory.set]
  split
  · exact Memory.all_erase a h.2
  · exact Memory.all_place (Memory.all_erase a h.2) (by simpa using ha)

theorem Memory.risesFrom_ofBytesFrom (k : Nat) (bytes : List Byte) :
    Memory.risesFrom k (Memory.ofBytesFrom k bytes) = true := by
  induction bytes generalizing k with
  | nil => rfl
  | cons b rest ih =>
    simp only [Memory.ofBytesFrom]
    split
    · exact Memory.risesFrom_mono (ih (k + 1)) (by omega)
    · rename_i hb; simp [Memory.risesFrom, hb, ih (k + 1)]

theorem Memory.ofBytesFrom_below (k : Nat) (bytes : List Byte) :
    ∀ c ∈ Memory.ofBytesFrom k bytes, c.1 < k + bytes.length := by
  induction bytes generalizing k with
  | nil => simp [Memory.ofBytesFrom]
  | cons b rest ih =>
    intro c hc
    have ih := ih (k + 1)
    simp only [Memory.ofBytesFrom] at hc
    simp only [List.length_cons]
    split at hc
    · have := ih c hc; omega
    · rcases List.mem_cons.mp hc with rfl | hc
      · simp
      · have := ih c hc; omega

/-- The memory made of a list of bytes has the canonical form of that many bytes. -/
theorem Memory.wfBelow_ofBytes (bytes : List Byte) :
    (Memory.ofBytes bytes).wfBelow bytes.length = true := by
  simp only [Memory.wfBelow, Memory.wf, Memory.ofBytes, Bool.and_eq_true, List.all_eq_true,
    decide_eq_true_eq]
  refine ⟨Memory.risesFrom_ofBytesFrom 0 bytes, fun c hc => ?_⟩
  have := Memory.ofBytesFrom_below 0 bytes c hc
  omega

end Sys2Proof.Machine
end

