-- ==== Sys2Proof/Laws/State.lean ====
section
/-! SUPPORT. One lemma per field per update of the state, so that no proof unfolds a record update. -/

namespace Sys2Proof.Machine

@[simp] theorem State.setA_a (s : State) (v : Byte) : (s.setA v).a = v := rfl
@[simp] theorem State.setA_x (s : State) (v : Byte) : (s.setA v).x = s.x := rfl
@[simp] theorem State.setA_y (s : State) (v : Byte) : (s.setA v).y = s.y := rfl
@[simp] theorem State.setA_sp (s : State) (v : Byte) : (s.setA v).sp = s.sp := rfl
@[simp] theorem State.setA_pc (s : State) (v : Byte) : (s.setA v).pc = s.pc := rfl
@[simp] theorem State.setA_p (s : State) (v : Byte) : (s.setA v).p = s.p := rfl
@[simp] theorem State.setA_ram (s : State) (v : Byte) : (s.setA v).ram = s.ram := rfl
@[simp] theorem State.setA_cart (s : State) (v : Byte) : (s.setA v).cart = s.cart := rfl
@[simp] theorem State.setA_params (s : State) (v : Byte) : (s.setA v).params = s.params := rfl
@[simp] theorem State.setA_fault (s : State) (v : Byte) : (s.setA v).fault = s.fault := rfl
@[simp] theorem State.setA_log (s : State) (v : Byte) : (s.setA v).log = s.log := rfl
@[simp] theorem State.setA_stepCycles (s : State) (v : Byte) : (s.setA v).stepCycles = s.stepCycles := rfl
@[simp] theorem State.setA_nmiPending (s : State) (v : Byte) : (s.setA v).nmiPending = s.nmiPending := rfl
@[simp] theorem State.setA_irqLine (s : State) (v : Byte) : (s.setA v).irqLine = s.irqLine := rfl

@[simp] theorem State.setX_a (s : State) (v : Byte) : (s.setX v).a = s.a := rfl
@[simp] theorem State.setX_x (s : State) (v : Byte) : (s.setX v).x = v := rfl
@[simp] theorem State.setX_y (s : State) (v : Byte) : (s.setX v).y = s.y := rfl
@[simp] theorem State.setX_sp (s : State) (v : Byte) : (s.setX v).sp = s.sp := rfl
@[simp] theorem State.setX_pc (s : State) (v : Byte) : (s.setX v).pc = s.pc := rfl
@[simp] theorem State.setX_p (s : State) (v : Byte) : (s.setX v).p = s.p := rfl
@[simp] theorem State.setX_ram (s : State) (v : Byte) : (s.setX v).ram = s.ram := rfl
@[simp] theorem State.setX_cart (s : State) (v : Byte) : (s.setX v).cart = s.cart := rfl
@[simp] theorem State.setX_params (s : State) (v : Byte) : (s.setX v).params = s.params := rfl
@[simp] theorem State.setX_fault (s : State) (v : Byte) : (s.setX v).fault = s.fault := rfl
@[simp] theorem State.setX_log (s : State) (v : Byte) : (s.setX v).log = s.log := rfl
@[simp] theorem State.setX_stepCycles (s : State) (v : Byte) : (s.setX v).stepCycles = s.stepCycles := rfl
@[simp] theorem State.setX_nmiPending (s : State) (v : Byte) : (s.setX v).nmiPending = s.nmiPending := rfl
@[simp] theorem State.setX_irqLine (s : State) (v : Byte) : (s.setX v).irqLine = s.irqLine := rfl

@[simp] theorem State.setY_a (s : State) (v : Byte) : (s.setY v).a = s.a := rfl
@[simp] theorem State.setY_x (s : State) (v : Byte) : (s.setY v).x = s.x := rfl
@[simp] theorem State.setY_y (s : State) (v : Byte) : (s.setY v).y = v := rfl
@[simp] theorem State.setY_sp (s : State) (v : Byte) : (s.setY v).sp = s.sp := rfl
@[simp] theorem State.setY_pc (s : State) (v : Byte) : (s.setY v).pc = s.pc := rfl
@[simp] theorem State.setY_p (s : State) (v : Byte) : (s.setY v).p = s.p := rfl
@[simp] theorem State.setY_ram (s : State) (v : Byte) : (s.setY v).ram = s.ram := rfl
@[simp] theorem State.setY_cart (s : State) (v : Byte) : (s.setY v).cart = s.cart := rfl
@[simp] theorem State.setY_params (s : State) (v : Byte) : (s.setY v).params = s.params := rfl
@[simp] theorem State.setY_fault (s : State) (v : Byte) : (s.setY v).fault = s.fault := rfl
@[simp] theorem State.setY_log (s : State) (v : Byte) : (s.setY v).log = s.log := rfl
@[simp] theorem State.setY_stepCycles (s : State) (v : Byte) : (s.setY v).stepCycles = s.stepCycles := rfl
@[simp] theorem State.setY_nmiPending (s : State) (v : Byte) : (s.setY v).nmiPending = s.nmiPending := rfl
@[simp] theorem State.setY_irqLine (s : State) (v : Byte) : (s.setY v).irqLine = s.irqLine := rfl

@[simp] theorem State.setSp_a (s : State) (v : Byte) : (s.setSp v).a = s.a := rfl
@[simp] theorem State.setSp_x (s : State) (v : Byte) : (s.setSp v).x = s.x := rfl
@[simp] theorem State.setSp_y (s : State) (v : Byte) : (s.setSp v).y = s.y := rfl
@[simp] theorem State.setSp_sp (s : State) (v : Byte) : (s.setSp v).sp = v := rfl
@[simp] theorem State.setSp_pc (s : State) (v : Byte) : (s.setSp v).pc = s.pc := rfl
@[simp] theorem State.setSp_p (s : State) (v : Byte) : (s.setSp v).p = s.p := rfl
@[simp] theorem State.setSp_ram (s : State) (v : Byte) : (s.setSp v).ram = s.ram := rfl
@[simp] theorem State.setSp_cart (s : State) (v : Byte) : (s.setSp v).cart = s.cart := rfl
@[simp] theorem State.setSp_params (s : State) (v : Byte) : (s.setSp v).params = s.params := rfl
@[simp] theorem State.setSp_fault (s : State) (v : Byte) : (s.setSp v).fault = s.fault := rfl
@[simp] theorem State.setSp_log (s : State) (v : Byte) : (s.setSp v).log = s.log := rfl
@[simp] theorem State.setSp_stepCycles (s : State) (v : Byte) : (s.setSp v).stepCycles = s.stepCycles := rfl
@[simp] theorem State.setSp_nmiPending (s : State) (v : Byte) : (s.setSp v).nmiPending = s.nmiPending := rfl
@[simp] theorem State.setSp_irqLine (s : State) (v : Byte) : (s.setSp v).irqLine = s.irqLine := rfl

@[simp] theorem State.setPc_a (s : State) (v : Word) : (s.setPc v).a = s.a := rfl
@[simp] theorem State.setPc_x (s : State) (v : Word) : (s.setPc v).x = s.x := rfl
@[simp] theorem State.setPc_y (s : State) (v : Word) : (s.setPc v).y = s.y := rfl
@[simp] theorem State.setPc_sp (s : State) (v : Word) : (s.setPc v).sp = s.sp := rfl
@[simp] theorem State.setPc_pc (s : State) (v : Word) : (s.setPc v).pc = v := rfl
@[simp] theorem State.setPc_p (s : State) (v : Word) : (s.setPc v).p = s.p := rfl
@[simp] theorem State.setPc_ram (s : State) (v : Word) : (s.setPc v).ram = s.ram := rfl
@[simp] theorem State.setPc_cart (s : State) (v : Word) : (s.setPc v).cart = s.cart := rfl
@[simp] theorem State.setPc_params (s : State) (v : Word) : (s.setPc v).params = s.params := rfl
@[simp] theorem State.setPc_fault (s : State) (v : Word) : (s.setPc v).fault = s.fault := rfl
@[simp] theorem State.setPc_log (s : State) (v : Word) : (s.setPc v).log = s.log := rfl
@[simp] theorem State.setPc_stepCycles (s : State) (v : Word) : (s.setPc v).stepCycles = s.stepCycles := rfl
@[simp] theorem State.setPc_nmiPending (s : State) (v : Word) : (s.setPc v).nmiPending = s.nmiPending := rfl
@[simp] theorem State.setPc_irqLine (s : State) (v : Word) : (s.setPc v).irqLine = s.irqLine := rfl

@[simp] theorem State.setP_a (s : State) (v : Status) : (s.setP v).a = s.a := rfl
@[simp] theorem State.setP_x (s : State) (v : Status) : (s.setP v).x = s.x := rfl
@[simp] theorem State.setP_y (s : State) (v : Status) : (s.setP v).y = s.y := rfl
@[simp] theorem State.setP_sp (s : State) (v : Status) : (s.setP v).sp = s.sp := rfl
@[simp] theorem State.setP_pc (s : State) (v : Status) : (s.setP v).pc = s.pc := rfl
@[simp] theorem State.setP_p (s : State) (v : Status) : (s.setP v).p = v := rfl
@[simp] theorem State.setP_ram (s : State) (v : Status) : (s.setP v).ram = s.ram := rfl
@[simp] theorem State.setP_cart (s : State) (v : Status) : (s.setP v).cart = s.cart := rfl
@[simp] theorem State.setP_params (s : State) (v : Status) : (s.setP v).params = s.params := rfl
@[simp] theorem State.setP_fault (s : State) (v : Status) : (s.setP v).fault = s.fault := rfl
@[simp] theorem State.setP_log (s : State) (v : Status) : (s.setP v).log = s.log := rfl
@[simp] theorem State.setP_stepCycles (s : State) (v : Status) : (s.setP v).stepCycles = s.stepCycles := rfl
@[simp] theorem State.setP_nmiPending (s : State) (v : Status) : (s.setP v).nmiPending = s.nmiPending := rfl
@[simp] theorem State.setP_irqLine (s : State) (v : Status) : (s.setP v).irqLine = s.irqLine := rfl

@[simp] theorem State.setRam_a (s : State) (v : Memory) : (s.setRam v).a = s.a := rfl
@[simp] theorem State.setRam_x (s : State) (v : Memory) : (s.setRam v).x = s.x := rfl
@[simp] theorem State.setRam_y (s : State) (v : Memory) : (s.setRam v).y = s.y := rfl
@[simp] theorem State.setRam_sp (s : State) (v : Memory) : (s.setRam v).sp = s.sp := rfl
@[simp] theorem State.setRam_pc (s : State) (v : Memory) : (s.setRam v).pc = s.pc := rfl
@[simp] theorem State.setRam_p (s : State) (v : Memory) : (s.setRam v).p = s.p := rfl
@[simp] theorem State.setRam_ram (s : State) (v : Memory) : (s.setRam v).ram = v := rfl
@[simp] theorem State.setRam_cart (s : State) (v : Memory) : (s.setRam v).cart = s.cart := rfl
@[simp] theorem State.setRam_params (s : State) (v : Memory) : (s.setRam v).params = s.params := rfl
@[simp] theorem State.setRam_fault (s : State) (v : Memory) : (s.setRam v).fault = s.fault := rfl
@[simp] theorem State.setRam_log (s : State) (v : Memory) : (s.setRam v).log = s.log := rfl
@[simp] theorem State.setRam_stepCycles (s : State) (v : Memory) : (s.setRam v).stepCycles = s.stepCycles := rfl
@[simp] theorem State.setRam_nmiPending (s : State) (v : Memory) : (s.setRam v).nmiPending = s.nmiPending := rfl
@[simp] theorem State.setRam_irqLine (s : State) (v : Memory) : (s.setRam v).irqLine = s.irqLine := rfl

@[simp] theorem State.setFault_a (s : State) (v : Option FaultCause) : (s.setFault v).a = s.a := rfl
@[simp] theorem State.setFault_x (s : State) (v : Option FaultCause) : (s.setFault v).x = s.x := rfl
@[simp] theorem State.setFault_y (s : State) (v : Option FaultCause) : (s.setFault v).y = s.y := rfl
@[simp] theorem State.setFault_sp (s : State) (v : Option FaultCause) : (s.setFault v).sp = s.sp := rfl
@[simp] theorem State.setFault_pc (s : State) (v : Option FaultCause) : (s.setFault v).pc = s.pc := rfl
@[simp] theorem State.setFault_p (s : State) (v : Option FaultCause) : (s.setFault v).p = s.p := rfl
@[simp] theorem State.setFault_ram (s : State) (v : Option FaultCause) : (s.setFault v).ram = s.ram := rfl
@[simp] theorem State.setFault_cart (s : State) (v : Option FaultCause) : (s.setFault v).cart = s.cart := rfl
@[simp] theorem State.setFault_params (s : State) (v : Option FaultCause) : (s.setFault v).params = s.params := rfl
@[simp] theorem State.setFault_fault (s : State) (v : Option FaultCause) : (s.setFault v).fault = v := rfl
@[simp] theorem State.setFault_log (s : State) (v : Option FaultCause) : (s.setFault v).log = s.log := rfl
@[simp] theorem State.setFault_stepCycles (s : State) (v : Option FaultCause) : (s.setFault v).stepCycles = s.stepCycles := rfl
@[simp] theorem State.setFault_nmiPending (s : State) (v : Option FaultCause) : (s.setFault v).nmiPending = s.nmiPending := rfl
@[simp] theorem State.setFault_irqLine (s : State) (v : Option FaultCause) : (s.setFault v).irqLine = s.irqLine := rfl

@[simp] theorem State.setCycles_a (s : State) (v : Nat) : (s.setCycles v).a = s.a := rfl
@[simp] theorem State.setCycles_x (s : State) (v : Nat) : (s.setCycles v).x = s.x := rfl
@[simp] theorem State.setCycles_y (s : State) (v : Nat) : (s.setCycles v).y = s.y := rfl
@[simp] theorem State.setCycles_sp (s : State) (v : Nat) : (s.setCycles v).sp = s.sp := rfl
@[simp] theorem State.setCycles_pc (s : State) (v : Nat) : (s.setCycles v).pc = s.pc := rfl
@[simp] theorem State.setCycles_p (s : State) (v : Nat) : (s.setCycles v).p = s.p := rfl
@[simp] theorem State.setCycles_ram (s : State) (v : Nat) : (s.setCycles v).ram = s.ram := rfl
@[simp] theorem State.setCycles_cart (s : State) (v : Nat) : (s.setCycles v).cart = s.cart := rfl
@[simp] theorem State.setCycles_params (s : State) (v : Nat) : (s.setCycles v).params = s.params := rfl
@[simp] theorem State.setCycles_fault (s : State) (v : Nat) : (s.setCycles v).fault = s.fault := rfl
@[simp] theorem State.setCycles_log (s : State) (v : Nat) : (s.setCycles v).log = s.log := rfl
@[simp] theorem State.setCycles_stepCycles (s : State) (v : Nat) : (s.setCycles v).stepCycles = v := rfl
@[simp] theorem State.setCycles_nmiPending (s : State) (v : Nat) : (s.setCycles v).nmiPending = s.nmiPending := rfl
@[simp] theorem State.setCycles_irqLine (s : State) (v : Nat) : (s.setCycles v).irqLine = s.irqLine := rfl

@[simp] theorem State.setNmi_a (s : State) (v : Bool) : (s.setNmi v).a = s.a := rfl
@[simp] theorem State.setNmi_x (s : State) (v : Bool) : (s.setNmi v).x = s.x := rfl
@[simp] theorem State.setNmi_y (s : State) (v : Bool) : (s.setNmi v).y = s.y := rfl
@[simp] theorem State.setNmi_sp (s : State) (v : Bool) : (s.setNmi v).sp = s.sp := rfl
@[simp] theorem State.setNmi_pc (s : State) (v : Bool) : (s.setNmi v).pc = s.pc := rfl
@[simp] theorem State.setNmi_p (s : State) (v : Bool) : (s.setNmi v).p = s.p := rfl
@[simp] theorem State.setNmi_ram (s : State) (v : Bool) : (s.setNmi v).ram = s.ram := rfl
@[simp] theorem State.setNmi_cart (s : State) (v : Bool) : (s.setNmi v).cart = s.cart := rfl
@[simp] theorem State.setNmi_params (s : State) (v : Bool) : (s.setNmi v).params = s.params := rfl
@[simp] theorem State.setNmi_fault (s : State) (v : Bool) : (s.setNmi v).fault = s.fault := rfl
@[simp] theorem State.setNmi_log (s : State) (v : Bool) : (s.setNmi v).log = s.log := rfl
@[simp] theorem State.setNmi_stepCycles (s : State) (v : Bool) : (s.setNmi v).stepCycles = s.stepCycles := rfl
@[simp] theorem State.setNmi_nmiPending (s : State) (v : Bool) : (s.setNmi v).nmiPending = v := rfl
@[simp] theorem State.setNmi_irqLine (s : State) (v : Bool) : (s.setNmi v).irqLine = s.irqLine := rfl

@[simp] theorem State.setIrq_a (s : State) (v : Bool) : (s.setIrq v).a = s.a := rfl
@[simp] theorem State.setIrq_x (s : State) (v : Bool) : (s.setIrq v).x = s.x := rfl
@[simp] theorem State.setIrq_y (s : State) (v : Bool) : (s.setIrq v).y = s.y := rfl
@[simp] theorem State.setIrq_sp (s : State) (v : Bool) : (s.setIrq v).sp = s.sp := rfl
@[simp] theorem State.setIrq_pc (s : State) (v : Bool) : (s.setIrq v).pc = s.pc := rfl
@[simp] theorem State.setIrq_p (s : State) (v : Bool) : (s.setIrq v).p = s.p := rfl
@[simp] theorem State.setIrq_ram (s : State) (v : Bool) : (s.setIrq v).ram = s.ram := rfl
@[simp] theorem State.setIrq_cart (s : State) (v : Bool) : (s.setIrq v).cart = s.cart := rfl
@[simp] theorem State.setIrq_params (s : State) (v : Bool) : (s.setIrq v).params = s.params := rfl
@[simp] theorem State.setIrq_fault (s : State) (v : Bool) : (s.setIrq v).fault = s.fault := rfl
@[simp] theorem State.setIrq_log (s : State) (v : Bool) : (s.setIrq v).log = s.log := rfl
@[simp] theorem State.setIrq_stepCycles (s : State) (v : Bool) : (s.setIrq v).stepCycles = s.stepCycles := rfl
@[simp] theorem State.setIrq_nmiPending (s : State) (v : Bool) : (s.setIrq v).nmiPending = s.nmiPending := rfl
@[simp] theorem State.setIrq_irqLine (s : State) (v : Bool) : (s.setIrq v).irqLine = v := rfl

@[simp] theorem State.logged_a (s : State) (e : Event) : (s.logged e).a = s.a := rfl
@[simp] theorem State.logged_x (s : State) (e : Event) : (s.logged e).x = s.x := rfl
@[simp] theorem State.logged_y (s : State) (e : Event) : (s.logged e).y = s.y := rfl
@[simp] theorem State.logged_sp (s : State) (e : Event) : (s.logged e).sp = s.sp := rfl
@[simp] theorem State.logged_pc (s : State) (e : Event) : (s.logged e).pc = s.pc := rfl
@[simp] theorem State.logged_p (s : State) (e : Event) : (s.logged e).p = s.p := rfl
@[simp] theorem State.logged_ram (s : State) (e : Event) : (s.logged e).ram = s.ram := rfl
@[simp] theorem State.logged_cart (s : State) (e : Event) : (s.logged e).cart = s.cart := rfl
@[simp] theorem State.logged_params (s : State) (e : Event) : (s.logged e).params = s.params := rfl
@[simp] theorem State.logged_fault (s : State) (e : Event) : (s.logged e).fault = s.fault := rfl
@[simp] theorem State.logged_log (s : State) (e : Event) : (s.logged e).log = e :: s.log := rfl
@[simp] theorem State.logged_stepCycles (s : State) (e : Event) : (s.logged e).stepCycles = s.stepCycles := rfl
@[simp] theorem State.logged_nmiPending (s : State) (e : Event) : (s.logged e).nmiPending = s.nmiPending := rfl
@[simp] theorem State.logged_irqLine (s : State) (e : Event) : (s.logged e).irqLine = s.irqLine := rfl

@[simp] theorem State.setNZ_a (s : State) (v : Byte) : (s.setNZ v).a = s.a := rfl
@[simp] theorem State.setNZ_x (s : State) (v : Byte) : (s.setNZ v).x = s.x := rfl
@[simp] theorem State.setNZ_y (s : State) (v : Byte) : (s.setNZ v).y = s.y := rfl
@[simp] theorem State.setNZ_sp (s : State) (v : Byte) : (s.setNZ v).sp = s.sp := rfl
@[simp] theorem State.setNZ_pc (s : State) (v : Byte) : (s.setNZ v).pc = s.pc := rfl
@[simp] theorem State.setNZ_p (s : State) (v : Byte) : (s.setNZ v).p = s.p.setNZ v := rfl
@[simp] theorem State.setNZ_ram (s : State) (v : Byte) : (s.setNZ v).ram = s.ram := rfl
@[simp] theorem State.setNZ_cart (s : State) (v : Byte) : (s.setNZ v).cart = s.cart := rfl
@[simp] theorem State.setNZ_params (s : State) (v : Byte) : (s.setNZ v).params = s.params := rfl
@[simp] theorem State.setNZ_fault (s : State) (v : Byte) : (s.setNZ v).fault = s.fault := rfl
@[simp] theorem State.setNZ_log (s : State) (v : Byte) : (s.setNZ v).log = s.log := rfl
@[simp] theorem State.setNZ_stepCycles (s : State) (v : Byte) : (s.setNZ v).stepCycles = s.stepCycles := rfl
@[simp] theorem State.setNZ_nmiPending (s : State) (v : Byte) : (s.setNZ v).nmiPending = s.nmiPending := rfl
@[simp] theorem State.setNZ_irqLine (s : State) (v : Byte) : (s.setNZ v).irqLine = s.irqLine := rfl

@[simp] theorem Status.setNZ_c (p : Status) (w : Byte) : (p.setNZ w).c = p.c := rfl
@[simp] theorem Status.setNZ_z (p : Status) (w : Byte) : (p.setNZ w).z = decide (w = 0) := rfl
@[simp] theorem Status.setNZ_i (p : Status) (w : Byte) : (p.setNZ w).i = p.i := rfl
@[simp] theorem Status.setNZ_d (p : Status) (w : Byte) : (p.setNZ w).d = p.d := rfl
@[simp] theorem Status.setNZ_b (p : Status) (w : Byte) : (p.setNZ w).b = p.b := rfl
@[simp] theorem Status.setNZ_u (p : Status) (w : Byte) : (p.setNZ w).u = p.u := rfl
@[simp] theorem Status.setNZ_v (p : Status) (w : Byte) : (p.setNZ w).v = p.v := rfl
@[simp] theorem Status.setNZ_n (p : Status) (w : Byte) : (p.setNZ w).n = w.getLsbD 7 := rfl

end Sys2Proof.Machine
end

