-- ==== Sys2Proof/Laws/Ops.lean ====
section
/-! SUPPORT. One lemma per shared operation that says everything it can do: bus reads and writes, pushes
and pulls, trap entry and return. -/

namespace Sys2Proof.Machine

/-! ### Words and bytes -/

theorem wordOf_high_low (w : Word) : wordOf (highByte w) (lowByte w) = w := by
  simp only [wordOf, highByte, lowByte, zext]
  ext i hi
  simp only [BitVec.getElem_or, BitVec.getElem_shiftLeft, BitVec.getElem_setWidth]
  by_cases h : i < 8
  · have h256 := Nat.testBit_mod_two_pow w.toNat 8 i
    simp only [h, decide_true, Bool.true_and] at h256
    simpa [h, BitVec.getElem_eq_testBit_toNat, BitVec.getLsbD] using h256
  · simp only [h, decide_false, Bool.not_false, Bool.true_and]
    have : i - 8 < 8 := by omega
    have h8 : 8 + (i - 8) = i := by omega
    simp [BitVec.getLsbD_setWidth, this, h8, hi, h]

/-- The value of a word joined from its bytes. -/
theorem wordOf_toNat (hi lo : Byte) : (wordOf hi lo).toNat = hi.toNat * 256 + lo.toNat := by
  have h := Nat.two_pow_add_eq_or_of_lt lo.isLt hi.toNat
  have h1 : lo.toNat < 256 := lo.isLt
  have h2 : hi.toNat < 256 := hi.isLt
  have h3 : (wordOf hi lo).toNat = 2 ^ 8 * hi.toNat ||| lo.toNat := by
    simp only [wordOf, zext, BitVec.toNat_or, BitVec.toNat_shiftLeft, BitVec.toNat_setWidth, Nat.shiftLeft_eq]
    congr 1 <;> omega
  rw [h3, ← h]
  omega

theorem highByte_toNat (w : Word) : (highByte w).toNat = w.toNat / 256 := by
  have := w.isLt
  simp [highByte, Nat.shiftRight_eq_div_pow]
  omega

theorem lowByte_toNat (w : Word) : (lowByte w).toNat = w.toNat % 256 := by
  simp [lowByte]

@[simp] theorem highByte_wordOf (hi lo : Byte) : highByte (wordOf hi lo) = hi := by
  apply BitVec.eq_of_toNat_eq
  have h1 : lo.toNat < 256 := lo.isLt
  rw [highByte_toNat, wordOf_toNat]
  omega

@[simp] theorem lowByte_wordOf (hi lo : Byte) : lowByte (wordOf hi lo) = lo := by
  apply BitVec.eq_of_toNat_eq
  have h1 : lo.toNat < 256 := lo.isLt
  rw [lowByte_toNat, wordOf_toNat]
  omega

/-! ### Going on and stopping -/

@[simp] theorem Ran.andThen_ok {α β : Type} (v : α) (s : State) (k : α → State → Ran β) :
    (Ran.ok v s).andThen k = k v s := rfl

@[simp] theorem Ran.andThen_stop {α β : Type} (c : FaultCause) (s : State) (k : α → State → Ran β) :
    (Ran.stop c s : Ran α).andThen k = .stop c s := rfl

@[simp] theorem Ran.finish_ok {α : Type} (v : α) (s : State) (k : α → State → State) :
    (Ran.ok v s).finish k = .next (k v s) := rfl

@[simp] theorem Ran.finish_stop {α : Type} (c : FaultCause) (s : State) (k : α → State → State) :
    (Ran.stop c s : Ran α).finish k = raiseFault c s := rfl

/-- A chain that goes on went on in both links. -/
theorem Ran.andThen_eq_ok {α β : Type} {r : Ran α} {k : α → State → Ran β} {w : β} {t : State}
    (h : r.andThen k = .ok w t) : ∃ v s, r = .ok v s ∧ k v s = .ok w t := by
  cases r with
  | ok v s => exact ⟨v, s, rfl, h⟩
  | stop c s => cases h

/-- A finished phase answers next only from a phase that went on. -/
theorem Ran.finish_eq_next {α : Type} {r : Ran α} {k : α → State → State} {t : State}
    (h : r.finish k = .next t) : ∃ v s, r = .ok v s ∧ t = k v s := by
  cases r with
  | ok v s => cases h; exact ⟨v, s, rfl, rfl⟩
  | stop c s => cases c <;> cases h

/-- What a finished phase that faults has stopped on. -/
theorem Ran.finish_eq_fault {α : Type} {r : Ran α} {k : α → State → State} {f : Fault}
    (h : r.finish k = .fault f) : ∃ c s, r = .stop c s ∧ f = Fault.ofCause c (s.setFault (some c)) := by
  cases r with
  | ok v s => cases h
  | stop c s => cases h; exact ⟨c, s, rfl, rfl⟩

theorem Ran.finish_ne_refused {α : Type} (r : Ran α) (k : α → State → State) (e : Refusal) :
    r.finish k ≠ .refused e := by
  cases r <;> intro h <;> cases h

/-! ### The bus -/

/-- The state differs only by a longer log. -/
def OnlyLogs (s t : State) : Prop := ∃ events, t = { s with log := events ++ s.log }

theorem OnlyLogs.refl (s : State) : OnlyLogs s s := ⟨[], rfl⟩

theorem OnlyLogs.trans {s t u : State} (h : OnlyLogs s t) (g : OnlyLogs t u) : OnlyLogs s u := by
  obtain ⟨e, rfl⟩ := h
  obtain ⟨f, rfl⟩ := g
  exact ⟨f ++ e, by simp⟩

theorem OnlyLogs.logged (s : State) (e : Event) : OnlyLogs s (s.logged e) := ⟨[e], rfl⟩

theorem read8_of_some {addr : Word} {v : Byte} {s : State} (h : s.busRead addr = some v) :
    read8 addr s = .ok v (s.logged (readEvent addr v)) := by simp [read8, h]

theorem read8_of_none {addr : Word} {s : State} (h : s.busRead addr = none) :
    read8 addr s = .stop (.missingPrgBank addr) s := by simp [read8, h]

/-- A read that goes on gave the bus's byte and logged it. -/
theorem read8_eq_ok {addr : Word} {v : Byte} {s t : State} (h : read8 addr s = .ok v t) :
    s.busRead addr = some v ∧ t = s.logged (readEvent addr v) := by
  unfold read8 at h
  split at h
  · rename_i w hw; cases h; exact ⟨hw, rfl⟩
  · cases h

/-- A read that stops found no bank and changed nothing. -/
theorem read8_eq_stop {addr : Word} {c : FaultCause} {s t : State} (h : read8 addr s = .stop c t) :
    s.busRead addr = none ∧ c = .missingPrgBank addr ∧ t = s := by
  unfold read8 at h
  split at h
  · cases h
  · rename_i hn; cases h; exact ⟨hn, rfl, rfl⟩

theorem read8_onlyLogs {addr : Word} {v : Byte} {s t : State} (h : read8 addr s = .ok v t) :
    OnlyLogs s t := by
  obtain ⟨-, rfl⟩ := read8_eq_ok h; exact OnlyLogs.logged _ _

/-- A read that no bank backs is of a program-ROM address (20_memory.md R50). -/
theorem busRead_eq_none {addr : Word} {s : State} (h : s.busRead addr = none) :
    0x8000 ≤ addr.toNat ∧ ∃ slot off, busTarget addr = .prg slot off ∧ s.mappedBank slot = none := by
  have hprg : ∃ slot off, busTarget addr = .prg slot off ∧ s.mappedBank slot = none := by
    unfold State.busRead at h
    split at h <;> simp at h
    exact ⟨_, _, by assumption, h⟩
  refine ⟨?_, hprg⟩
  obtain ⟨slot, off, h, -⟩ := hprg
  unfold busTarget at h
  by_contra hlt
  repeat' split at h
  all_goals first | omega | cases h

/-- Everything a bus write can do: store a RAM byte and log it, or only log. -/
theorem write8_cases (addr : Word) (v : Byte) (s : State) :
    (∃ off, busTarget addr = .ram off ∧
      write8 addr v s = (s.setRam (s.ram.set off v)).logged (.write addr v)) ∨
    ((∀ off, busTarget addr ≠ .ram off) ∧ ∃ e, write8 addr v s = s.logged e) := by
  unfold write8
  split <;> rename_i h
  · exact .inl ⟨_, h, rfl⟩
  · split <;> exact .inr ⟨fun off => by simp [h], _, rfl⟩
  all_goals exact .inr ⟨fun off => by simp [h], _, rfl⟩

@[simp] theorem write8_a (addr : Word) (v : Byte) (s : State) : (write8 addr v s).a = s.a := by
  unfold write8; split <;> (try split) <;> rfl
@[simp] theorem write8_x (addr : Word) (v : Byte) (s : State) : (write8 addr v s).x = s.x := by
  unfold write8; split <;> (try split) <;> rfl
@[simp] theorem write8_y (addr : Word) (v : Byte) (s : State) : (write8 addr v s).y = s.y := by
  unfold write8; split <;> (try split) <;> rfl
@[simp] theorem write8_sp (addr : Word) (v : Byte) (s : State) : (write8 addr v s).sp = s.sp := by
  unfold write8; split <;> (try split) <;> rfl
@[simp] theorem write8_pc (addr : Word) (v : Byte) (s : State) : (write8 addr v s).pc = s.pc := by
  unfold write8; split <;> (try split) <;> rfl
@[simp] theorem write8_p (addr : Word) (v : Byte) (s : State) : (write8 addr v s).p = s.p := by
  unfold write8; split <;> (try split) <;> rfl
@[simp] theorem write8_cart (addr : Word) (v : Byte) (s : State) : (write8 addr v s).cart = s.cart := by
  unfold write8; split <;> (try split) <;> rfl
@[simp] theorem write8_params (addr : Word) (v : Byte) (s : State) : (write8 addr v s).params = s.params := by
  unfold write8; split <;> (try split) <;> rfl
@[simp] theorem write8_fault (addr : Word) (v : Byte) (s : State) : (write8 addr v s).fault = s.fault := by
  unfold write8; split <;> (try split) <;> rfl
@[simp] theorem write8_stepCycles (addr : Word) (v : Byte) (s : State) : (write8 addr v s).stepCycles = s.stepCycles := by
  unfold write8; split <;> (try split) <;> rfl
@[simp] theorem write8_nmiPending (addr : Word) (v : Byte) (s : State) : (write8 addr v s).nmiPending = s.nmiPending := by
  unfold write8; split <;> (try split) <;> rfl
@[simp] theorem write8_irqLine (addr : Word) (v : Byte) (s : State) : (write8 addr v s).irqLine = s.irqLine := by
  unfold write8; split <;> (try split) <;> rfl

@[simp] theorem push_a (v : Byte) (s : State) : (push v s).a = s.a := by simp [push]
@[simp] theorem push_x (v : Byte) (s : State) : (push v s).x = s.x := by simp [push]
@[simp] theorem push_y (v : Byte) (s : State) : (push v s).y = s.y := by simp [push]
@[simp] theorem push_sp (v : Byte) (s : State) : (push v s).sp = s.sp - 1 := rfl
@[simp] theorem push_pc (v : Byte) (s : State) : (push v s).pc = s.pc := by simp [push]
@[simp] theorem push_p (v : Byte) (s : State) : (push v s).p = s.p := by simp [push]
@[simp] theorem push_cart (v : Byte) (s : State) : (push v s).cart = s.cart := by simp [push]
@[simp] theorem push_params (v : Byte) (s : State) : (push v s).params = s.params := by simp [push]
@[simp] theorem push_fault (v : Byte) (s : State) : (push v s).fault = s.fault := by simp [push]
@[simp] theorem push_stepCycles (v : Byte) (s : State) : (push v s).stepCycles = s.stepCycles := by simp [push]
@[simp] theorem push_nmiPending (v : Byte) (s : State) : (push v s).nmiPending = s.nmiPending := by simp [push]
@[simp] theorem push_irqLine (v : Byte) (s : State) : (push v s).irqLine = s.irqLine := by simp [push]

@[simp] theorem push16_a (w : Word) (s : State) : (push16 w s).a = s.a := by simp [push16]
@[simp] theorem push16_x (w : Word) (s : State) : (push16 w s).x = s.x := by simp [push16]
@[simp] theorem push16_y (w : Word) (s : State) : (push16 w s).y = s.y := by simp [push16]
@[simp] theorem push16_sp (w : Word) (s : State) : (push16 w s).sp = s.sp - 1 - 1 := rfl
@[simp] theorem push16_pc (w : Word) (s : State) : (push16 w s).pc = s.pc := by simp [push16]
@[simp] theorem push16_p (w : Word) (s : State) : (push16 w s).p = s.p := by simp [push16]
@[simp] theorem push16_cart (w : Word) (s : State) : (push16 w s).cart = s.cart := by simp [push16]
@[simp] theorem push16_params (w : Word) (s : State) : (push16 w s).params = s.params := by simp [push16]
@[simp] theorem push16_fault (w : Word) (s : State) : (push16 w s).fault = s.fault := by simp [push16]
@[simp] theorem push16_stepCycles (w : Word) (s : State) : (push16 w s).stepCycles = s.stepCycles := by simp [push16]
@[simp] theorem push16_nmiPending (w : Word) (s : State) : (push16 w s).nmiPending = s.nmiPending := by simp [push16]
@[simp] theorem push16_irqLine (w : Word) (s : State) : (push16 w s).irqLine = s.irqLine := by simp [push16]

theorem write8_log (addr : Word) (v : Byte) (s : State) : ∃ e, (write8 addr v s).log = e :: s.log := by
  rcases write8_cases addr v s with ⟨_, -, h⟩ | ⟨-, e, h⟩ <;> rw [h] <;> exact ⟨_, rfl⟩

theorem push_log (v : Byte) (s : State) : ∃ e, (push v s).log = e :: s.log := by
  simpa [push] using write8_log (stackAddr s.sp) v s

/-! ### The stack -/

/-- The stack page is RAM (20_memory.md R54). -/
theorem busTarget_stackAddr (sp : Byte) : busTarget (stackAddr sp) = .ram (0x100 + sp.toNat) := by
  revert sp; decide +kernel

theorem stackAddr_toNat (sp : Byte) : (stackAddr sp).toNat = 0x100 + sp.toNat := by
  revert sp; decide +kernel

/-- A push always stores. -/
theorem push_eq (v : Byte) (s : State) :
    push v s = ((s.setRam (s.ram.set (0x100 + s.sp.toNat) v)).logged (.write (stackAddr s.sp) v)).setSp
      (s.sp - 1) := by
  simp [push, write8, busTarget_stackAddr]

/-- A pull always goes on, with the stack page's byte. -/
theorem pull_eq (s : State) :
    pull s = .ok (s.ram.get (0x100 + (s.sp + 1).toNat))
      ((s.setSp (s.sp + 1)).logged (.read (stackAddr (s.sp + 1)) (s.ram.get (0x100 + (s.sp + 1).toNat)))) := by
  simp [pull, read8, State.busRead, readEvent, busTarget_stackAddr]

end Sys2Proof.Machine
end

