-- ==== Sys2Proof/Laws/Operands.lean ====
section
/-! SUPPORT. What resolving an address, reading an operand and each shape of an instruction can do. -/

namespace Sys2Proof.Machine

/-- A phase that, going on, only logs, and, stopping, stops on a missing bank having only logged. -/
def OnlyReads {α : Type} (s : State) (r : Ran α) : Prop :=
  (∀ v t, r = .ok v t → OnlyLogs s t) ∧
  (∀ c t, r = .stop c t → OnlyLogs s t ∧ ∃ addr, c = .missingPrgBank addr ∧ s.busRead addr = none)

/-- Whether a read finds a bank does not depend on the log. -/
theorem busRead_none_of_onlyLogs {s t : State} {addr : Word} (h : OnlyLogs s t) (ht : t.busRead addr = none) :
    s.busRead addr = none := by
  obtain ⟨e, rfl⟩ := h
  revert ht
  unfold State.busRead
  split <;> simp [State.mappedBank]

theorem OnlyReads.ok {α : Type} (s : State) (v : α) : OnlyReads s (.ok v s) :=
  ⟨fun _ _ h => by cases h; exact OnlyLogs.refl s, fun _ _ h => by cases h⟩

theorem OnlyReads.read8 (addr : Word) (s : State) : OnlyReads s (Machine.read8 addr s) :=
  ⟨fun _ _ h => read8_onlyLogs h, fun _ _ h => by
    obtain ⟨hn, rfl, rfl⟩ := read8_eq_stop h; exact ⟨OnlyLogs.refl _, addr, rfl, hn⟩⟩

theorem OnlyReads.andThen {α β : Type} {s : State} {r : Ran α} {k : α → State → Ran β} (hr : OnlyReads s r)
    (hk : ∀ v t, r = .ok v t → OnlyReads t (k v t)) : OnlyReads s (r.andThen k) := by
  cases r with
  | ok v t =>
    have hl := hr.1 v t rfl
    have hk := hk v t rfl
    refine ⟨fun w u h => hl.trans (hk.1 w u h), fun c u h => ?_⟩
    obtain ⟨hl', a, hc, ha⟩ := hk.2 c u h
    exact ⟨hl.trans hl', a, hc, busRead_none_of_onlyLogs hl ha⟩
  | stop c t => exact ⟨fun _ _ h => (nomatch h), fun c' u h => by cases h; exact hr.2 c t rfl⟩

theorem OnlyReads.readPair (lo hi : Word) (s : State) : OnlyReads s (Machine.readPair lo hi s) :=
  (OnlyReads.read8 lo s).andThen fun _ t _ => (OnlyReads.read8 hi t).andThen fun _ _ _ => OnlyReads.ok _ _

theorem OnlyReads.resolve (m : MemMode) (s : State) : OnlyReads s (Machine.resolve m s) := by
  cases m
  case indexedIndirect b => exact OnlyReads.readPair _ _ _
  case indirectIndexed b => exact (OnlyReads.readPair _ _ _).andThen fun _ _ _ => OnlyReads.ok _ _
  all_goals exact OnlyReads.ok _ _

theorem OnlyReads.resolveIndirect (ptr : Word) (s : State) : OnlyReads s (Machine.resolveIndirect ptr s) :=
  OnlyReads.readPair _ _ _

theorem OnlyReads.readTarget (m : MemMode) (s : State) : OnlyReads s (Machine.readTarget m s) :=
  (OnlyReads.resolve m s).andThen fun _ t _ => (OnlyReads.read8 _ t).andThen fun _ _ _ => OnlyReads.ok _ _

theorem OnlyReads.operandRead (o : Operand) (s : State) : OnlyReads s (Machine.operandRead o s) := by
  cases o with
  | immediate b => exact OnlyReads.ok _ _
  | memory m => exact (OnlyReads.readTarget m s).andThen fun _ _ _ => OnlyReads.ok _ _

/-- An instruction over an operand that completes has changed registers and flags by it only. -/
theorem withOperand_eq_next {o : Operand} {k : Byte → State → State} {s t : State}
    (h : withOperand o k s = .next t) :
    ∃ v s1, operandRead o s = .ok v s1 ∧ OnlyLogs s s1 ∧ t = k v s1 := by
  obtain ⟨v, s1, hv, ht⟩ := Ran.finish_eq_next h
  exact ⟨v, s1, hv, (OnlyReads.operandRead o s).1 v s1 hv, ht⟩

/-- A store that completes has made one write, at its effective address. -/
theorem storeByte_eq_next {m : MemMode} {v : Byte} {s t : State} (h : storeByte m v s = .next t) :
    ∃ ea s1 s2, resolve m s = .ok ea s1 ∧ OnlyLogs s s2 ∧ t = write8 ea v s2 := by
  obtain ⟨ea, s2, hv, ht⟩ := Ran.finish_eq_next h
  obtain ⟨ea', s1, hr, hk⟩ := Ran.andThen_eq_ok hv
  have h1 := (OnlyReads.resolve m s).1 _ _ hr
  split at hk
  · obtain ⟨w, s3, hw, he⟩ := Ran.andThen_eq_ok hk
    cases he
    exact ⟨ea, s1, s2, hr, h1.trans (read8_onlyLogs hw), ht⟩
  · cases hk
    exact ⟨ea, s2, s2, hr, h1, ht⟩

/-- A read-modify-write that completes has made one read and one write of its effective address. -/
theorem modifyMemory_eq_next {op : ByteOp} {m : MemMode} {s t : State} (h : modifyMemory op m s = .next t) :
    ∃ ea s1 v s2, resolve m s = .ok ea s1 ∧ read8 ea s1 = .ok v s2 ∧ OnlyLogs s s2 ∧
      t = write8 ea (op v s2.p).1 (s2.setP (op v s2.p).2) := by
  obtain ⟨⟨ea, v⟩, s2, hv, ht⟩ := Ran.finish_eq_next h
  obtain ⟨ea', s1, hr, hk⟩ := Ran.andThen_eq_ok hv
  obtain ⟨w, s3, hw, he⟩ := Ran.andThen_eq_ok hk
  cases he
  exact ⟨ea, s1, v, s2, hr, hw, ((OnlyReads.resolve m s).1 _ _ hr).trans (read8_onlyLogs hw), ht⟩

/-- Trap entry that goes on: three pushes, P.I, and PC from two reads of the vector. -/
theorem enterTrap_eq_ok {ret : Word} {status : Byte} {vector : Word} {s t : State}
    (h : enterTrap ret status vector s = .ok () t) :
    ∃ target s2, OnlyLogs ((push status (push16 ret s)).setP { s.p with i := true }) s2 ∧
      t = s2.setPc target := by
  obtain ⟨target, s2, hw, he⟩ := Ran.andThen_eq_ok h
  have h1 := (OnlyReads.readPair _ _ _).1 _ _ hw
  simp only [push_p, push16_p] at h1
  cases he
  exact ⟨target, s2, h1, rfl⟩

/-- Trap return never stops: it reads three stack bytes, the status, then PC low byte first. -/
theorem returnFromTrap_eq (s : State) :
    returnFromTrap s = .ok ()
      { s with
        sp := s.sp + 1 + 1 + 1
        p := s.p.pulled (s.ram.get (0x100 + (s.sp + 1).toNat))
        pc := wordOf (s.ram.get (0x100 + (s.sp + 1 + 1 + 1).toNat)) (s.ram.get (0x100 + (s.sp + 1 + 1).toNat))
        log :=
          .read (stackAddr (s.sp + 1 + 1 + 1)) (s.ram.get (0x100 + (s.sp + 1 + 1 + 1).toNat)) ::
          .read (stackAddr (s.sp + 1 + 1)) (s.ram.get (0x100 + (s.sp + 1 + 1).toNat)) ::
          .read (stackAddr (s.sp + 1)) (s.ram.get (0x100 + (s.sp + 1).toNat)) :: s.log } := by
  simp only [returnFromTrap, pull16, pull_eq, Ran.andThen_ok, State.setSp_sp, State.setSp_p, State.logged_sp,
    State.logged_p, State.logged_ram, State.setP_sp, State.setP_ram, State.setSp_ram]
  simp [State.setSp, State.logged, State.setP, State.setPc]

end Sys2Proof.Machine
end

