-- ==== Sys2Proof/Laws/PerInstr.lean ====
section
/-! SUPPORT. Statements about every instruction as syntax, one lemma per constructor. -/

namespace Sys2Proof.Laws.EncodedLength

/-- An instruction's length is one more than its mode's operand bytes (30_encoding.md R81). -/
def Statement (i : Instr) : Prop := (encode i).length = 1 + i.mode.operandBytes

theorem adcIzx (b : Byte) : Statement (.adcIzx b) := rfl
theorem adcZp (b : Byte) : Statement (.adcZp b) := rfl
theorem adcImm (b : Byte) : Statement (.adcImm b) := rfl
theorem adcAbs (addr : Word) : Statement (.adcAbs addr) := rfl
theorem adcIzy (b : Byte) : Statement (.adcIzy b) := rfl
theorem adcZpx (b : Byte) : Statement (.adcZpx b) := rfl
theorem adcAby (addr : Word) : Statement (.adcAby addr) := rfl
theorem adcAbx (addr : Word) : Statement (.adcAbx addr) := rfl
theorem sbcIzx (b : Byte) : Statement (.sbcIzx b) := rfl
theorem sbcZp (b : Byte) : Statement (.sbcZp b) := rfl
theorem sbcImm (b : Byte) : Statement (.sbcImm b) := rfl
theorem sbcAbs (addr : Word) : Statement (.sbcAbs addr) := rfl
theorem sbcIzy (b : Byte) : Statement (.sbcIzy b) := rfl
theorem sbcZpx (b : Byte) : Statement (.sbcZpx b) := rfl
theorem sbcAby (addr : Word) : Statement (.sbcAby addr) := rfl
theorem sbcAbx (addr : Word) : Statement (.sbcAbx addr) := rfl
theorem incZp (b : Byte) : Statement (.incZp b) := rfl
theorem incAbs (addr : Word) : Statement (.incAbs addr) := rfl
theorem incZpx (b : Byte) : Statement (.incZpx b) := rfl
theorem incAbx (addr : Word) : Statement (.incAbx addr) := rfl
theorem decZp (b : Byte) : Statement (.decZp b) := rfl
theorem decAbs (addr : Word) : Statement (.decAbs addr) := rfl
theorem decZpx (b : Byte) : Statement (.decZpx b) := rfl
theorem decAbx (addr : Word) : Statement (.decAbx addr) := rfl
theorem inx : Statement (.inx) := rfl
theorem iny : Statement (.iny) := rfl
theorem dex : Statement (.dex) := rfl
theorem dey : Statement (.dey) := rfl
theorem andIzx (b : Byte) : Statement (.andIzx b) := rfl
theorem andZp (b : Byte) : Statement (.andZp b) := rfl
theorem andImm (b : Byte) : Statement (.andImm b) := rfl
theorem andAbs (addr : Word) : Statement (.andAbs addr) := rfl
theorem andIzy (b : Byte) : Statement (.andIzy b) := rfl
theorem andZpx (b : Byte) : Statement (.andZpx b) := rfl
theorem andAby (addr : Word) : Statement (.andAby addr) := rfl
theorem andAbx (addr : Word) : Statement (.andAbx addr) := rfl
theorem oraIzx (b : Byte) : Statement (.oraIzx b) := rfl
theorem oraZp (b : Byte) : Statement (.oraZp b) := rfl
theorem oraImm (b : Byte) : Statement (.oraImm b) := rfl
theorem oraAbs (addr : Word) : Statement (.oraAbs addr) := rfl
theorem oraIzy (b : Byte) : Statement (.oraIzy b) := rfl
theorem oraZpx (b : Byte) : Statement (.oraZpx b) := rfl
theorem oraAby (addr : Word) : Statement (.oraAby addr) := rfl
theorem oraAbx (addr : Word) : Statement (.oraAbx addr) := rfl
theorem eorIzx (b : Byte) : Statement (.eorIzx b) := rfl
theorem eorZp (b : Byte) : Statement (.eorZp b) := rfl
theorem eorImm (b : Byte) : Statement (.eorImm b) := rfl
theorem eorAbs (addr : Word) : Statement (.eorAbs addr) := rfl
theorem eorIzy (b : Byte) : Statement (.eorIzy b) := rfl
theorem eorZpx (b : Byte) : Statement (.eorZpx b) := rfl
theorem eorAby (addr : Word) : Statement (.eorAby addr) := rfl
theorem eorAbx (addr : Word) : Statement (.eorAbx addr) := rfl
theorem bitZp (b : Byte) : Statement (.bitZp b) := rfl
theorem bitAbs (addr : Word) : Statement (.bitAbs addr) := rfl
theorem cmpIzx (b : Byte) : Statement (.cmpIzx b) := rfl
theorem cmpZp (b : Byte) : Statement (.cmpZp b) := rfl
theorem cmpImm (b : Byte) : Statement (.cmpImm b) := rfl
theorem cmpAbs (addr : Word) : Statement (.cmpAbs addr) := rfl
theorem cmpIzy (b : Byte) : Statement (.cmpIzy b) := rfl
theorem cmpZpx (b : Byte) : Statement (.cmpZpx b) := rfl
theorem cmpAby (addr : Word) : Statement (.cmpAby addr) := rfl
theorem cmpAbx (addr : Word) : Statement (.cmpAbx addr) := rfl
theorem cpxImm (b : Byte) : Statement (.cpxImm b) := rfl
theorem cpxZp (b : Byte) : Statement (.cpxZp b) := rfl
theorem cpxAbs (addr : Word) : Statement (.cpxAbs addr) := rfl
theorem cpyImm (b : Byte) : Statement (.cpyImm b) := rfl
theorem cpyZp (b : Byte) : Statement (.cpyZp b) := rfl
theorem cpyAbs (addr : Word) : Statement (.cpyAbs addr) := rfl
theorem aslZp (b : Byte) : Statement (.aslZp b) := rfl
theorem aslAcc : Statement (.aslAcc) := rfl
theorem aslAbs (addr : Word) : Statement (.aslAbs addr) := rfl
theorem aslZpx (b : Byte) : Statement (.aslZpx b) := rfl
theorem aslAbx (addr : Word) : Statement (.aslAbx addr) := rfl
theorem lsrZp (b : Byte) : Statement (.lsrZp b) := rfl
theorem lsrAcc : Statement (.lsrAcc) := rfl
theorem lsrAbs (addr : Word) : Statement (.lsrAbs addr) := rfl
theorem lsrZpx (b : Byte) : Statement (.lsrZpx b) := rfl
theorem lsrAbx (addr : Word) : Statement (.lsrAbx addr) := rfl
theorem rolZp (b : Byte) : Statement (.rolZp b) := rfl
theorem rolAcc : Statement (.rolAcc) := rfl
theorem rolAbs (addr : Word) : Statement (.rolAbs addr) := rfl
theorem rolZpx (b : Byte) : Statement (.rolZpx b) := rfl
theorem rolAbx (addr : Word) : Statement (.rolAbx addr) := rfl
theorem rorZp (b : Byte) : Statement (.rorZp b) := rfl
theorem rorAcc : Statement (.rorAcc) := rfl
theorem rorAbs (addr : Word) : Statement (.rorAbs addr) := rfl
theorem rorZpx (b : Byte) : Statement (.rorZpx b) := rfl
theorem rorAbx (addr : Word) : Statement (.rorAbx addr) := rfl
theorem bcc (d : Int) : Statement (.bcc d) := rfl
theorem bcs (d : Int) : Statement (.bcs d) := rfl
theorem beq (d : Int) : Statement (.beq d) := rfl
theorem bmi (d : Int) : Statement (.bmi d) := rfl
theorem bne (d : Int) : Statement (.bne d) := rfl
theorem bpl (d : Int) : Statement (.bpl d) := rfl
theorem bvc (d : Int) : Statement (.bvc d) := rfl
theorem bvs (d : Int) : Statement (.bvs d) := rfl
theorem ldaIzx (b : Byte) : Statement (.ldaIzx b) := rfl
theorem ldaZp (b : Byte) : Statement (.ldaZp b) := rfl
theorem ldaImm (b : Byte) : Statement (.ldaImm b) := rfl
theorem ldaAbs (addr : Word) : Statement (.ldaAbs addr) := rfl
theorem ldaIzy (b : Byte) : Statement (.ldaIzy b) := rfl
theorem ldaZpx (b : Byte) : Statement (.ldaZpx b) := rfl
theorem ldaAby (addr : Word) : Statement (.ldaAby addr) := rfl
theorem ldaAbx (addr : Word) : Statement (.ldaAbx addr) := rfl
theorem ldxImm (b : Byte) : Statement (.ldxImm b) := rfl
theorem ldxZp (b : Byte) : Statement (.ldxZp b) := rfl
theorem ldxAbs (addr : Word) : Statement (.ldxAbs addr) := rfl
theorem ldxZpy (b : Byte) : Statement (.ldxZpy b) := rfl
theorem ldxAby (addr : Word) : Statement (.ldxAby addr) := rfl
theorem ldyImm (b : Byte) : Statement (.ldyImm b) := rfl
theorem ldyZp (b : Byte) : Statement (.ldyZp b) := rfl
theorem ldyAbs (addr : Word) : Statement (.ldyAbs addr) := rfl
theorem ldyZpx (b : Byte) : Statement (.ldyZpx b) := rfl
theorem ldyAbx (addr : Word) : Statement (.ldyAbx addr) := rfl
theorem staIzx (b : Byte) : Statement (.staIzx b) := rfl
theorem staZp (b : Byte) : Statement (.staZp b) := rfl
theorem staAbs (addr : Word) : Statement (.staAbs addr) := rfl
theorem staIzy (b : Byte) : Statement (.staIzy b) := rfl
theorem staZpx (b : Byte) : Statement (.staZpx b) := rfl
theorem staAby (addr : Word) : Statement (.staAby addr) := rfl
theorem staAbx (addr : Word) : Statement (.staAbx addr) := rfl
theorem stxZp (b : Byte) : Statement (.stxZp b) := rfl
theorem stxAbs (addr : Word) : Statement (.stxAbs addr) := rfl
theorem stxZpy (b : Byte) : Statement (.stxZpy b) := rfl
theorem styZp (b : Byte) : Statement (.styZp b) := rfl
theorem styAbs (addr : Word) : Statement (.styAbs addr) := rfl
theorem styZpx (b : Byte) : Statement (.styZpx b) := rfl
theorem tax : Statement (.tax) := rfl
theorem tay : Statement (.tay) := rfl
theorem txa : Statement (.txa) := rfl
theorem tya : Statement (.tya) := rfl
theorem tsx : Statement (.tsx) := rfl
theorem txs : Statement (.txs) := rfl
theorem pha : Statement (.pha) := rfl
theorem php : Statement (.php) := rfl
theorem pla : Statement (.pla) := rfl
theorem plp : Statement (.plp) := rfl
theorem jmpAbs (addr : Word) : Statement (.jmpAbs addr) := rfl
theorem jmpInd (addr : Word) : Statement (.jmpInd addr) := rfl
theorem jsr (addr : Word) : Statement (.jsr addr) := rfl
theorem rts : Statement (.rts) := rfl
theorem brk : Statement (.brk) := rfl
theorem rti : Statement (.rti) := rfl
theorem clc : Statement (.clc) := rfl
theorem sec : Statement (.sec) := rfl
theorem cli : Statement (.cli) := rfl
theorem sei : Statement (.sei) := rfl
theorem cld : Statement (.cld) := rfl
theorem sed : Statement (.sed) := rfl
theorem clv : Statement (.clv) := rfl
theorem nop : Statement (.nop) := rfl

end Sys2Proof.Laws.EncodedLength
end

