-- ==== Sys2Proof/Laws/Step.lean ====
section
/-! SUPPORT. What a fetch and a step can do: one inversion lemma each. -/

namespace Sys2Proof.Machine

theorem fetchByte_of_some {s : State} {b : Byte} (h : s.busRead s.pc = some b) :
    fetchByte s = .ok b ((s.logged (readEvent s.pc b)).setPc (s.pc + 1)) := by
  simp [fetchByte, read8_of_some h]

theorem fetchByte_of_none {s : State} (h : s.busRead s.pc = none) :
    fetchByte s = .stop (.missingPrgBank s.pc) s := by
  simp [fetchByte, read8_of_none h]

theorem fetchByte_eq_ok {s t : State} {b : Byte} (h : fetchByte s = .ok b t) :
    s.busRead s.pc = some b ∧ t = (s.logged (readEvent s.pc b)).setPc (s.pc + 1) := by
  obtain ⟨v, s1, hv, he⟩ := Ran.andThen_eq_ok h
  obtain ⟨hb, rfl⟩ := read8_eq_ok hv
  cases he
  exact ⟨hb, rfl⟩

/-- The state differs only by a longer log and another PC. -/
def OnlyFetches (s t : State) : Prop := ∃ events pc, t = { s with log := events ++ s.log, pc := pc }

theorem OnlyFetches.trans {s t u : State} (h : OnlyFetches s t) (g : OnlyFetches t u) : OnlyFetches s u := by
  obtain ⟨e, p, rfl⟩ := h
  obtain ⟨f, q, rfl⟩ := g
  exact ⟨f ++ e, q, by simp⟩

theorem fetchByte_onlyFetches {s t : State} {b : Byte} (h : fetchByte s = .ok b t) : OnlyFetches s t := by
  obtain ⟨-, rfl⟩ := fetchByte_eq_ok h
  exact ⟨[readEvent s.pc b], s.pc + 1, rfl⟩

/-- A fetch that goes on has only logged its reads and moved PC. -/
theorem fetchInstr_onlyFetches {s t : State} {i : Instr} (h : fetchInstr s = .ok i t) : OnlyFetches s t := by
  obtain ⟨op, s1, h1, hk⟩ := Ran.andThen_eq_ok h
  have f1 := fetchByte_onlyFetches h1
  split at hk
  · cases hk
  · cases hk; exact f1
  · obtain ⟨b, s2, h2, he⟩ := Ran.andThen_eq_ok hk
    cases he; exact f1.trans (fetchByte_onlyFetches h2)
  · obtain ⟨b, s2, h2, he⟩ := Ran.andThen_eq_ok hk
    cases he; exact f1.trans (fetchByte_onlyFetches h2)
  · obtain ⟨lo, s2, h2, he⟩ := Ran.andThen_eq_ok hk
    obtain ⟨hi, s3, h3, he⟩ := Ran.andThen_eq_ok he
    cases he; exact (f1.trans (fetchByte_onlyFetches h2)).trans (fetchByte_onlyFetches h3)

/-- The phases of a step that complete an instruction. -/
theorem runInstr_eq_next {ex : Instr → State → Host.Outcome State Fault Refusal} {s t : State}
    (h : runInstr ex s = .next t) :
    ∃ i s1 u, fetchInstr s = .ok i s1 ∧ ex i s1 = .next u ∧ t = u.setCycles i.cycles := by
  unfold runInstr at h
  split at h
  · rename_i i s1 hf
    cases hx : ex i s1 with
    | next u => rw [hx] at h; cases h; exact ⟨i, s1, u, hf, hx, rfl⟩
    | fault f => rw [hx] at h; cases h
    | refused r => rw [hx] at h; cases h
  · cases h

/-- A step that answers next: no fault was held, and either a due interrupt was taken or an instruction
was fetched and completed. -/
theorem step_eq_next {s t : State} (h : step s = .next t) :
    s.fault = none ∧
      ((s.interruptDue = true ∧ interruptSequence s = .next t) ∨
        (s.interruptDue = false ∧ ∃ i s1 u, fetchInstr s = .ok i s1 ∧ OnlyFetches s s1 ∧
          exec i s1 = .next u ∧ t = u.setCycles i.cycles)) := by
  unfold step runStep at h
  split at h
  · cases h
  · rename_i hf
    refine ⟨hf, ?_⟩
    split at h
    · rename_i hd; exact .inl ⟨hd, h⟩
    · rename_i hd
      obtain ⟨i, s1, u, h1, h2, h3⟩ := runInstr_eq_next h
      exact .inr ⟨by simpa using hd, i, s1, u, h1, fetchInstr_onlyFetches h1, h2, h3⟩

end Sys2Proof.Machine
end

