-- ==== Sys2Proof/Machine/HostAccess.lean ====
section
/-! DEFINITION. What the host may do between steps (20_memory.md R76; 70_reset_and_hazards.md R238): the
interrupt inputs of the optional extension and writes of RAM. Register injection is
`Sys2Proof.Machine.launch`. -/

namespace Sys2Proof.Machine

/-- The host requests one NMI (60_exceptions.md R214); the core clears it when it takes it. -/
def hostRequestNmi (s : State) : State := s.setNmi true

/-- The host holds or releases the IRQ level (60_exceptions.md R214); the core never changes it. -/
def hostSetIrqLine (level : Bool) (s : State) : State := s.setIrq level

/-- The host sets a RAM byte by its offset, taken modulo the RAM size (70_reset_and_hazards.md R234); nothing
is logged. -/
def hostSetRam (offset : Nat) (v : Byte) (s : State) : State := s.setRam (s.ram.set (offset % 0x800) v)

end Sys2Proof.Machine
end

