-- ==== Sys2Proof/Tests/Slice0.lean ====
section
/-! SUPPORT. The model's own tests: the well-formedness smoke tests, decoding against the spec's encoding
tables (30_encoding.md, 41_arithmetic.md to 48_flags_misc.md), the test vectors of 95_test_vectors.md
(each test names its vector), and a witness for every statement that has hypotheses. -/

namespace Sys2Proof.Tests

open Sys2Proof.Machine
open Sys2Proof.Spec

/-! ### Well-formedness: an ill-formed term for each check -/

theorem test_wf_bcc : (Instr.bcc 128).wellFormed = false ∧ (Instr.bcc (-129)).wellFormed = false ∧
    (Instr.bcc 127).wellFormed = true ∧ (Instr.bcc (-128)).wellFormed = true := by decide

theorem test_wf_bcs : (Instr.bcs 128).wellFormed = false ∧ (Instr.bcs (-129)).wellFormed = false ∧
    (Instr.bcs 127).wellFormed = true ∧ (Instr.bcs (-128)).wellFormed = true := by decide

theorem test_wf_beq : (Instr.beq 128).wellFormed = false ∧ (Instr.beq (-129)).wellFormed = false ∧
    (Instr.beq 127).wellFormed = true ∧ (Instr.beq (-128)).wellFormed = true := by decide

theorem test_wf_bmi : (Instr.bmi 128).wellFormed = false ∧ (Instr.bmi (-129)).wellFormed = false ∧
    (Instr.bmi 127).wellFormed = true ∧ (Instr.bmi (-128)).wellFormed = true := by decide

theorem test_wf_bne : (Instr.bne 128).wellFormed = false ∧ (Instr.bne (-129)).wellFormed = false ∧
    (Instr.bne 127).wellFormed = true ∧ (Instr.bne (-128)).wellFormed = true := by decide

theorem test_wf_bpl : (Instr.bpl 128).wellFormed = false ∧ (Instr.bpl (-129)).wellFormed = false ∧
    (Instr.bpl 127).wellFormed = true ∧ (Instr.bpl (-128)).wellFormed = true := by decide

theorem test_wf_bvc : (Instr.bvc 128).wellFormed = false ∧ (Instr.bvc (-129)).wellFormed = false ∧
    (Instr.bvc 127).wellFormed = true ∧ (Instr.bvc (-128)).wellFormed = true := by decide

theorem test_wf_bvs : (Instr.bvs 128).wellFormed = false ∧ (Instr.bvs (-129)).wellFormed = false ∧
    (Instr.bvs 127).wellFormed = true ∧ (Instr.bvs (-128)).wellFormed = true := by decide

/-! ### Decoding: every row of the instruction rules' encoding tables, opcodes bit by bit -/

theorem test_decode_arithmetic_1 :
    decode [0b01101001, 0x9C] = .ok (.adcImm 0x9C) [] ∧
    decode [0b01100101, 0x9C] = .ok (.adcZp 0x9C) [] ∧
    decode [0b01110101, 0x9C] = .ok (.adcZpx 0x9C) [] ∧
    decode [0b01101101, 0x34, 0x92] = .ok (.adcAbs 0x9234) [] ∧
    decode [0b01111101, 0x34, 0x92] = .ok (.adcAbx 0x9234) [] ∧
    decode [0b01111001, 0x34, 0x92] = .ok (.adcAby 0x9234) [] ∧
    decode [0b01100001, 0x9C] = .ok (.adcIzx 0x9C) [] ∧
    decode [0b01110001, 0x9C] = .ok (.adcIzy 0x9C) [] ∧
    decode [0b11101001, 0x9C] = .ok (.sbcImm 0x9C) [] ∧
    decode [0b11100101, 0x9C] = .ok (.sbcZp 0x9C) [] ∧
    decode [0b11110101, 0x9C] = .ok (.sbcZpx 0x9C) [] ∧
    decode [0b11101101, 0x34, 0x92] = .ok (.sbcAbs 0x9234) [] ∧
    decode [0b11111101, 0x34, 0x92] = .ok (.sbcAbx 0x9234) [] ∧
    decode [0b11111001, 0x34, 0x92] = .ok (.sbcAby 0x9234) [] ∧
    decode [0b11100001, 0x9C] = .ok (.sbcIzx 0x9C) [] ∧
    decode [0b11110001, 0x9C] = .ok (.sbcIzy 0x9C) [] := by decide

theorem test_decode_arithmetic_2 :
    decode [0b11100110, 0x9C] = .ok (.incZp 0x9C) [] ∧
    decode [0b11110110, 0x9C] = .ok (.incZpx 0x9C) [] ∧
    decode [0b11101110, 0x34, 0x92] = .ok (.incAbs 0x9234) [] ∧
    decode [0b11111110, 0x34, 0x92] = .ok (.incAbx 0x9234) [] ∧
    decode [0b11000110, 0x9C] = .ok (.decZp 0x9C) [] ∧
    decode [0b11010110, 0x9C] = .ok (.decZpx 0x9C) [] ∧
    decode [0b11001110, 0x34, 0x92] = .ok (.decAbs 0x9234) [] ∧
    decode [0b11011110, 0x34, 0x92] = .ok (.decAbx 0x9234) [] ∧
    decode [0b11101000] = .ok .inx [] ∧
    decode [0b11001000] = .ok .iny [] ∧
    decode [0b11001010] = .ok .dex [] ∧
    decode [0b10001000] = .ok .dey [] := by decide

theorem test_decode_logic_compare_1 :
    decode [0b00101001, 0x9C] = .ok (.andImm 0x9C) [] ∧
    decode [0b00100101, 0x9C] = .ok (.andZp 0x9C) [] ∧
    decode [0b00110101, 0x9C] = .ok (.andZpx 0x9C) [] ∧
    decode [0b00101101, 0x34, 0x92] = .ok (.andAbs 0x9234) [] ∧
    decode [0b00111101, 0x34, 0x92] = .ok (.andAbx 0x9234) [] ∧
    decode [0b00111001, 0x34, 0x92] = .ok (.andAby 0x9234) [] ∧
    decode [0b00100001, 0x9C] = .ok (.andIzx 0x9C) [] ∧
    decode [0b00110001, 0x9C] = .ok (.andIzy 0x9C) [] ∧
    decode [0b00001001, 0x9C] = .ok (.oraImm 0x9C) [] ∧
    decode [0b00000101, 0x9C] = .ok (.oraZp 0x9C) [] ∧
    decode [0b00010101, 0x9C] = .ok (.oraZpx 0x9C) [] ∧
    decode [0b00001101, 0x34, 0x92] = .ok (.oraAbs 0x9234) [] ∧
    decode [0b00011101, 0x34, 0x92] = .ok (.oraAbx 0x9234) [] ∧
    decode [0b00011001, 0x34, 0x92] = .ok (.oraAby 0x9234) [] ∧
    decode [0b00000001, 0x9C] = .ok (.oraIzx 0x9C) [] ∧
    decode [0b00010001, 0x9C] = .ok (.oraIzy 0x9C) [] := by decide

theorem test_decode_logic_compare_2 :
    decode [0b01001001, 0x9C] = .ok (.eorImm 0x9C) [] ∧
    decode [0b01000101, 0x9C] = .ok (.eorZp 0x9C) [] ∧
    decode [0b01010101, 0x9C] = .ok (.eorZpx 0x9C) [] ∧
    decode [0b01001101, 0x34, 0x92] = .ok (.eorAbs 0x9234) [] ∧
    decode [0b01011101, 0x34, 0x92] = .ok (.eorAbx 0x9234) [] ∧
    decode [0b01011001, 0x34, 0x92] = .ok (.eorAby 0x9234) [] ∧
    decode [0b01000001, 0x9C] = .ok (.eorIzx 0x9C) [] ∧
    decode [0b01010001, 0x9C] = .ok (.eorIzy 0x9C) [] ∧
    decode [0b00100100, 0x9C] = .ok (.bitZp 0x9C) [] ∧
    decode [0b00101100, 0x34, 0x92] = .ok (.bitAbs 0x9234) [] ∧
    decode [0b11001001, 0x9C] = .ok (.cmpImm 0x9C) [] ∧
    decode [0b11000101, 0x9C] = .ok (.cmpZp 0x9C) [] ∧
    decode [0b11010101, 0x9C] = .ok (.cmpZpx 0x9C) [] ∧
    decode [0b11001101, 0x34, 0x92] = .ok (.cmpAbs 0x9234) [] ∧
    decode [0b11011101, 0x34, 0x92] = .ok (.cmpAbx 0x9234) [] ∧
    decode [0b11011001, 0x34, 0x92] = .ok (.cmpAby 0x9234) [] := by decide

theorem test_decode_logic_compare_3 :
    decode [0b11000001, 0x9C] = .ok (.cmpIzx 0x9C) [] ∧
    decode [0b11010001, 0x9C] = .ok (.cmpIzy 0x9C) [] ∧
    decode [0b11100000, 0x9C] = .ok (.cpxImm 0x9C) [] ∧
    decode [0b11100100, 0x9C] = .ok (.cpxZp 0x9C) [] ∧
    decode [0b11101100, 0x34, 0x92] = .ok (.cpxAbs 0x9234) [] ∧
    decode [0b11000000, 0x9C] = .ok (.cpyImm 0x9C) [] ∧
    decode [0b11000100, 0x9C] = .ok (.cpyZp 0x9C) [] ∧
    decode [0b11001100, 0x34, 0x92] = .ok (.cpyAbs 0x9234) [] := by decide

theorem test_decode_shift_rotate_1 :
    decode [0b00001010] = .ok .aslAcc [] ∧
    decode [0b00000110, 0x9C] = .ok (.aslZp 0x9C) [] ∧
    decode [0b00010110, 0x9C] = .ok (.aslZpx 0x9C) [] ∧
    decode [0b00001110, 0x34, 0x92] = .ok (.aslAbs 0x9234) [] ∧
    decode [0b00011110, 0x34, 0x92] = .ok (.aslAbx 0x9234) [] ∧
    decode [0b01001010] = .ok .lsrAcc [] ∧
    decode [0b01000110, 0x9C] = .ok (.lsrZp 0x9C) [] ∧
    decode [0b01010110, 0x9C] = .ok (.lsrZpx 0x9C) [] ∧
    decode [0b01001110, 0x34, 0x92] = .ok (.lsrAbs 0x9234) [] ∧
    decode [0b01011110, 0x34, 0x92] = .ok (.lsrAbx 0x9234) [] ∧
    decode [0b00101010] = .ok .rolAcc [] ∧
    decode [0b00100110, 0x9C] = .ok (.rolZp 0x9C) [] ∧
    decode [0b00110110, 0x9C] = .ok (.rolZpx 0x9C) [] ∧
    decode [0b00101110, 0x34, 0x92] = .ok (.rolAbs 0x9234) [] ∧
    decode [0b00111110, 0x34, 0x92] = .ok (.rolAbx 0x9234) [] ∧
    decode [0b01101010] = .ok .rorAcc [] := by decide

theorem test_decode_shift_rotate_2 :
    decode [0b01100110, 0x9C] = .ok (.rorZp 0x9C) [] ∧
    decode [0b01110110, 0x9C] = .ok (.rorZpx 0x9C) [] ∧
    decode [0b01101110, 0x34, 0x92] = .ok (.rorAbs 0x9234) [] ∧
    decode [0b01111110, 0x34, 0x92] = .ok (.rorAbx 0x9234) [] := by decide

theorem test_decode_branch :
    decode [0b10010000, 0xFB] = .ok (.bcc (-5)) [] ∧
    decode [0b10110000, 0xFB] = .ok (.bcs (-5)) [] ∧
    decode [0b11110000, 0xFB] = .ok (.beq (-5)) [] ∧
    decode [0b00110000, 0xFB] = .ok (.bmi (-5)) [] ∧
    decode [0b11010000, 0xFB] = .ok (.bne (-5)) [] ∧
    decode [0b00010000, 0xFB] = .ok (.bpl (-5)) [] ∧
    decode [0b01010000, 0xFB] = .ok (.bvc (-5)) [] ∧
    decode [0b01110000, 0xFB] = .ok (.bvs (-5)) [] := by decide

theorem test_decode_load_1 :
    decode [0b10101001, 0x9C] = .ok (.ldaImm 0x9C) [] ∧
    decode [0b10100101, 0x9C] = .ok (.ldaZp 0x9C) [] ∧
    decode [0b10110101, 0x9C] = .ok (.ldaZpx 0x9C) [] ∧
    decode [0b10101101, 0x34, 0x92] = .ok (.ldaAbs 0x9234) [] ∧
    decode [0b10111101, 0x34, 0x92] = .ok (.ldaAbx 0x9234) [] ∧
    decode [0b10111001, 0x34, 0x92] = .ok (.ldaAby 0x9234) [] ∧
    decode [0b10100001, 0x9C] = .ok (.ldaIzx 0x9C) [] ∧
    decode [0b10110001, 0x9C] = .ok (.ldaIzy 0x9C) [] ∧
    decode [0b10100010, 0x9C] = .ok (.ldxImm 0x9C) [] ∧
    decode [0b10100110, 0x9C] = .ok (.ldxZp 0x9C) [] ∧
    decode [0b10110110, 0x9C] = .ok (.ldxZpy 0x9C) [] ∧
    decode [0b10101110, 0x34, 0x92] = .ok (.ldxAbs 0x9234) [] ∧
    decode [0b10111110, 0x34, 0x92] = .ok (.ldxAby 0x9234) [] ∧
    decode [0b10100000, 0x9C] = .ok (.ldyImm 0x9C) [] ∧
    decode [0b10100100, 0x9C] = .ok (.ldyZp 0x9C) [] ∧
    decode [0b10110100, 0x9C] = .ok (.ldyZpx 0x9C) [] := by decide

theorem test_decode_load_2 :
    decode [0b10101100, 0x34, 0x92] = .ok (.ldyAbs 0x9234) [] ∧
    decode [0b10111100, 0x34, 0x92] = .ok (.ldyAbx 0x9234) [] := by decide

theorem test_decode_store_transfer_1 :
    decode [0b10000101, 0x9C] = .ok (.staZp 0x9C) [] ∧
    decode [0b10010101, 0x9C] = .ok (.staZpx 0x9C) [] ∧
    decode [0b10001101, 0x34, 0x92] = .ok (.staAbs 0x9234) [] ∧
    decode [0b10011101, 0x34, 0x92] = .ok (.staAbx 0x9234) [] ∧
    decode [0b10011001, 0x34, 0x92] = .ok (.staAby 0x9234) [] ∧
    decode [0b10000001, 0x9C] = .ok (.staIzx 0x9C) [] ∧
    decode [0b10010001, 0x9C] = .ok (.staIzy 0x9C) [] ∧
    decode [0b10000110, 0x9C] = .ok (.stxZp 0x9C) [] ∧
    decode [0b10010110, 0x9C] = .ok (.stxZpy 0x9C) [] ∧
    decode [0b10001110, 0x34, 0x92] = .ok (.stxAbs 0x9234) [] ∧
    decode [0b10000100, 0x9C] = .ok (.styZp 0x9C) [] ∧
    decode [0b10010100, 0x9C] = .ok (.styZpx 0x9C) [] ∧
    decode [0b10001100, 0x34, 0x92] = .ok (.styAbs 0x9234) [] ∧
    decode [0b10101010] = .ok .tax [] ∧
    decode [0b10101000] = .ok .tay [] ∧
    decode [0b10001010] = .ok .txa [] := by decide

theorem test_decode_store_transfer_2 :
    decode [0b10011000] = .ok .tya [] ∧
    decode [0b10111010] = .ok .tsx [] ∧
    decode [0b10011010] = .ok .txs [] := by decide

theorem test_decode_stack :
    decode [0b01001000] = .ok .pha [] ∧
    decode [0b00001000] = .ok .php [] ∧
    decode [0b01101000] = .ok .pla [] ∧
    decode [0b00101000] = .ok .plp [] := by decide

theorem test_decode_control :
    decode [0b01001100, 0x34, 0x92] = .ok (.jmpAbs 0x9234) [] ∧
    decode [0b01101100, 0x34, 0x92] = .ok (.jmpInd 0x9234) [] ∧
    decode [0b00100000, 0x34, 0x92] = .ok (.jsr 0x9234) [] ∧
    decode [0b01100000] = .ok .rts [] ∧
    decode [0b00000000] = .ok .brk [] ∧
    decode [0b01000000] = .ok .rti [] := by decide

theorem test_decode_flags :
    decode [0b00011000] = .ok .clc [] ∧
    decode [0b00111000] = .ok .sec [] ∧
    decode [0b01011000] = .ok .cli [] ∧
    decode [0b01111000] = .ok .sei [] ∧
    decode [0b11011000] = .ok .cld [] ∧
    decode [0b11111000] = .ok .sed [] ∧
    decode [0b10111000] = .ok .clv [] ∧
    decode [0b11101010] = .ok .nop [] := by decide

/-- 30_encoding.md R86: undefined opcodes are refused by name, and cut-off instructions too. -/
theorem test_decode_rejects :
    decode [0x02] = .rejected (.undefinedOpcode 0x02) ∧ decode [0xFF, 0x00] = .rejected (.undefinedOpcode 0xFF) ∧
    decode [0x65] = .rejected .truncated ∧ decode [0x6D, 0x00] = .rejected .truncated ∧
    decode [] = .rejected .truncated := by decide

/-- The table's numbering: the first byte is the low one. -/
theorem test_decode_table_word :
    decodeTableWord 8 0xEA = some .nop ∧ decodeTableWord 16 0xAA65 = some (.adcZp 0xAA) ∧
    decodeTableWord 24 0x80104C = some (.jmpAbs 0x8010) ∧ decodeTableWord 8 0x02 = none := by decide

/-- 30_encoding.md R80: the bytes of an instruction in the order of their addresses. -/
theorem test_encode :
    encode (.adcZp 0xAA) = [0x65, 0xAA] ∧ encode (.jmpInd 0x02FF) = [0x6C, 0xFF, 0x02] ∧
    encode (.bne (-5)) = [0xD0, 0xFB] ∧ encode .brk = [0x00] := by decide

/-! ### Building a state and reading an outcome -/

/-- A blank RAM with the listed bytes. -/
def ramOf (cells : List (Nat × Byte)) : Memory := cells.foldl (fun m c => m.set c.1 c.2) []

/-- The construction state with the PC and the RAM bytes given, the code placed at PC (95_test_vectors.md,
Conventions: two program banks of zeros). -/
def bench (pc : Word) (code : List Byte) (cells : List (Nat × Byte) := []) : State :=
  let s := { State.reset with pc := pc, ram := ramOf cells }
  (placeBytes code pc s).getD s

/-- A machine with the listed program banks and no code placed. -/
def withBanks (prg : List Memory) (s : State) : State :=
  { s with cart := { header := ⟨BitVec.ofNat 8 prg.length, 0, 0, 0, 0, 0, 0⟩, prg := prg, chr := [] } }

/-- A reading of the next state. -/
def seen {α : Type} (o : Spec.Outcome) (f : State → α) : Option α :=
  match o with
  | .next t => some (f t)
  | _ => none

/-- The fault a step ended in. -/
def faultOf (o : Spec.Outcome) : Option Fault :=
  match o with
  | .fault f => some f
  | _ => none

/-- The state at the end of a step, faulting or not. -/
def finalOf (o : Spec.Outcome) : Option State :=
  match o with
  | .next t => some t
  | .fault (.missingPrgBank _ t) => some t
  | .fault (.unimplementedOpcode _ _ t) => some t
  | _ => none

/-! ### The test vectors of 95_test_vectors.md, one step each -/

/-- Vector W3: `ADC #$01`. -/
theorem test_W3 :
    seen (step { bench 0x8000 [0x69, 0x01] with a := 0xFF })
      (fun s => (s.a, s.p.toByte)) = some (0x00, 0x03) := by decide

/-- Vector W5: `ADC #$80`. -/
theorem test_W5 :
    seen (step { bench 0x8000 [0x69, 0x80] with a := 0x80 })
      (fun s => (s.a, s.p.toByte)) = some (0x00, 0x43) := by decide

/-- Vector W6: `SBC #$03`. -/
theorem test_W6 :
    seen (step { bench 0x8000 [0xE9, 0x03] with a := 0x05, p := Status.ofByte 0x01 })
      (fun s => (s.a, s.p.toByte)) = some (0x02, 0x01) := by decide

/-- Vector W12: `ADC $AA`. -/
theorem test_W12 :
    seen (step { bench 0x8000 [0x65, 0xAA] [(0x00AA, 0x01)] with a := 0x01 })
      (fun s => (s.pc, s.a, s.p.toByte, s.stepCycles)) = some (0x8002, 0x02, 0x00, 3) := by decide

/-- Vector A1: `ADC #$50`. -/
theorem test_A1 :
    seen (step { bench 0x8000 [0x69, 0x50] with a := 0x50 })
      (fun s => (s.a, s.p.toByte, s.pc, s.stepCycles)) = some (0xA0, 0xC0, 0x8002, 2) := by decide

/-- Vector A3: `ADC #$00`. -/
theorem test_A3 :
    seen (step { bench 0x8000 [0x69, 0x00] with a := 0xFF, p := Status.ofByte 0x01 })
      (fun s => (s.a, s.p.toByte, s.pc, s.stepCycles)) = some (0x00, 0x03, 0x8002, 2) := by decide

/-- Vector A6: `SBC #$B0`. -/
theorem test_A6 :
    seen (step { bench 0x8000 [0xE9, 0xB0] with a := 0x50, p := Status.ofByte 0x01 })
      (fun s => (s.a, s.p.toByte, s.pc, s.stepCycles)) = some (0xA0, 0xC0, 0x8002, 2) := by decide

/-- Vector A9: `SBC #$03`. -/
theorem test_A9 :
    seen (step { bench 0x8000 [0xE9, 0x03] with a := 0x05 })
      (fun s => (s.a, s.p.toByte, s.pc, s.stepCycles)) = some (0x01, 0x01, 0x8002, 2) := by decide

/-- Vector A11: `ADC $10`. -/
theorem test_A11 :
    seen (step { bench 0x8000 [0x65, 0x10] [(0x0010, 0xFF)] with a := 0x01 })
      (fun s => (s.a, s.p.toByte, s.pc, s.stepCycles)) = some (0x00, 0x03, 0x8002, 3) := by decide

/-- Vector A12: `INC $10`. -/
theorem test_A12 :
    seen (step (bench 0x8000 [0xE6, 0x10] [(0x0010, 0xFF)]))
      (fun s => (s.p.toByte, s.pc, s.ram.get 0x10, s.stepCycles)) = some (0x02, 0x8002, 0x00, 5) := by decide

/-- Vector A13: `DEC $10`. -/
theorem test_A13 :
    seen (step (bench 0x8000 [0xC6, 0x10] [(0x0010, 0x00)]))
      (fun s => (s.p.toByte, s.pc, s.ram.get 0x10, s.stepCycles)) = some (0x80, 0x8002, 0xFF, 5) := by decide

/-- Vector A14: `INC $0800`. -/
theorem test_A14 :
    seen (step (bench 0x8000 [0xEE, 0x00, 0x08] [(0x0000, 0x7F)]))
      (fun s => (s.p.toByte, s.pc, s.ram.get 0x0, s.stepCycles)) = some (0x80, 0x8003, 0x80, 6) := by decide

/-- Vector A15: `INX`. -/
theorem test_A15 :
    seen (step { bench 0x8000 [0xE8] with x := 0xFF })
      (fun s => (s.x, s.p.toByte, s.pc, s.stepCycles)) = some (0x00, 0x02, 0x8001, 2) := by decide

/-- Vector A16: `INY`. -/
theorem test_A16 :
    seen (step { bench 0x8000 [0xC8] with y := 0x7F })
      (fun s => (s.y, s.p.toByte, s.pc, s.stepCycles)) = some (0x80, 0x80, 0x8001, 2) := by decide

/-- Vector A17: `DEX`. -/
theorem test_A17 :
    seen (step { bench 0x8000 [0xCA] with x := 0x01 })
      (fun s => (s.x, s.p.toByte, s.pc, s.stepCycles)) = some (0x00, 0x02, 0x8001, 2) := by decide

/-- Vector A18: `DEY`. -/
theorem test_A18 :
    seen (step { bench 0x8000 [0x88] with y := 0x00 })
      (fun s => (s.y, s.p.toByte, s.pc, s.stepCycles)) = some (0xFF, 0x80, 0x8001, 2) := by decide

/-- Vector A19: `INX`. -/
theorem test_A19 :
    seen (step { bench 0x8000 [0xE8] with x := 0x00, p := Status.ofByte 0x41 })
      (fun s => (s.x, s.pc, s.p.toByte, s.stepCycles)) = some (0x01, 0x8001, 0x41, 2) := by decide

/-- Vector B1: `AND #$0F`. -/
theorem test_B1 :
    seen (step { bench 0x8000 [0x29, 0x0F] with a := 0xFF })
      (fun s => (s.a, s.pc, s.p.toByte, s.stepCycles)) = some (0x0F, 0x8002, 0x00, 2) := by decide

/-- Vector B2: `AND #$0F`. -/
theorem test_B2 :
    seen (step { bench 0x8000 [0x29, 0x0F] with a := 0xF0 })
      (fun s => (s.a, s.p.toByte, s.pc, s.stepCycles)) = some (0x00, 0x02, 0x8002, 2) := by decide

/-- Vector B3: `ORA #$01`. -/
theorem test_B3 :
    seen (step { bench 0x8000 [0x09, 0x01] with a := 0x80 })
      (fun s => (s.a, s.p.toByte, s.pc, s.stepCycles)) = some (0x81, 0x80, 0x8002, 2) := by decide

/-- Vector B4: `EOR #$FF`. -/
theorem test_B4 :
    seen (step { bench 0x8000 [0x49, 0xFF] with a := 0xFF })
      (fun s => (s.a, s.p.toByte, s.pc, s.stepCycles)) = some (0x00, 0x02, 0x8002, 2) := by decide

/-- Vector B5: `EOR #$FF`. -/
theorem test_B5 :
    seen (step { bench 0x8000 [0x49, 0xFF] with a := 0x0F })
      (fun s => (s.a, s.p.toByte, s.pc, s.stepCycles)) = some (0xF0, 0x80, 0x8002, 2) := by decide

/-- Vector B6: `BIT $10`. -/
theorem test_B6 :
    seen (step { bench 0x8000 [0x24, 0x10] [(0x0010, 0xC0)] with a := 0x01 })
      (fun s => (s.p.toByte, s.pc, s.stepCycles)) = some (0xC2, 0x8002, 3) := by decide

/-- Vector B7: `BIT $10`. -/
theorem test_B7 :
    seen (step { bench 0x8000 [0x24, 0x10] [(0x0010, 0x3F)] with a := 0xFF, p := Status.ofByte 0xC0 })
      (fun s => (s.p.toByte, s.pc, s.stepCycles)) = some (0x00, 0x8002, 3) := by decide

/-- Vector B8: `BIT $0200`. -/
theorem test_B8 :
    seen (step { bench 0x8000 [0x2C, 0x00, 0x02] [(0x0200, 0x80)] with a := 0x80 })
      (fun s => (s.p.toByte, s.pc, s.stepCycles)) = some (0x80, 0x8003, 4) := by decide

/-- Vector B9: `CMP #$10`. -/
theorem test_B9 :
    seen (step { bench 0x8000 [0xC9, 0x10] with a := 0x10 })
      (fun s => (s.p.toByte, s.pc, s.stepCycles)) = some (0x03, 0x8002, 2) := by decide

/-- Vector B10: `CMP #$20`. -/
theorem test_B10 :
    seen (step { bench 0x8000 [0xC9, 0x20] with a := 0x10 })
      (fun s => (s.p.toByte, s.pc, s.stepCycles)) = some (0x80, 0x8002, 2) := by decide

/-- Vector B13: `CPX #$7F`. -/
theorem test_B13 :
    seen (step { bench 0x8000 [0xE0, 0x7F] with x := 0x80 })
      (fun s => (s.p.toByte, s.pc, s.stepCycles)) = some (0x01, 0x8002, 2) := by decide

/-- Vector B14: `CPY #$80`. -/
theorem test_B14 :
    seen (step { bench 0x8000 [0xC0, 0x80] with y := 0x00 })
      (fun s => (s.p.toByte, s.pc, s.stepCycles)) = some (0x80, 0x8002, 2) := by decide

/-- Vector S1: `ASL A`. -/
theorem test_S1 :
    seen (step { bench 0x8000 [0x0A] with a := 0x81 })
      (fun s => (s.a, s.p.toByte, s.pc, s.stepCycles)) = some (0x02, 0x01, 0x8001, 2) := by decide

/-- Vector S2: `LSR A`. -/
theorem test_S2 :
    seen (step { bench 0x8000 [0x4A] with a := 0x01 })
      (fun s => (s.a, s.p.toByte, s.pc, s.stepCycles)) = some (0x00, 0x03, 0x8001, 2) := by decide

/-- Vector S3: `LSR A`. -/
theorem test_S3 :
    seen (step { bench 0x8000 [0x4A] with a := 0xFF, p := Status.ofByte 0x80 })
      (fun s => (s.a, s.p.toByte, s.pc, s.stepCycles)) = some (0x7F, 0x01, 0x8001, 2) := by decide

/-- Vector S4: `ROL A`. -/
theorem test_S4 :
    seen (step { bench 0x8000 [0x2A] with a := 0x80 })
      (fun s => (s.a, s.p.toByte, s.pc, s.stepCycles)) = some (0x00, 0x03, 0x8001, 2) := by decide

/-- Vector S5: `ROL A`. -/
theorem test_S5 :
    seen (step { bench 0x8000 [0x2A] with a := 0x40, p := Status.ofByte 0x01 })
      (fun s => (s.a, s.p.toByte, s.pc, s.stepCycles)) = some (0x81, 0x80, 0x8001, 2) := by decide

/-- Vector S6: `ROR A`. -/
theorem test_S6 :
    seen (step { bench 0x8000 [0x6A] with a := 0x01 })
      (fun s => (s.a, s.p.toByte, s.pc, s.stepCycles)) = some (0x00, 0x03, 0x8001, 2) := by decide

/-- Vector S7: `ROR A`. -/
theorem test_S7 :
    seen (step { bench 0x8000 [0x6A] with a := 0x00, p := Status.ofByte 0x01 })
      (fun s => (s.a, s.p.toByte, s.pc, s.stepCycles)) = some (0x80, 0x80, 0x8001, 2) := by decide

/-- Vector S8: `ASL $10`. -/
theorem test_S8 :
    seen (step (bench 0x8000 [0x06, 0x10] [(0x0010, 0x40)]))
      (fun s => (s.p.toByte, s.pc, s.ram.get 0x10, s.stepCycles)) = some (0x80, 0x8002, 0x80, 5) := by decide

/-- Vector S9: `ROR $01FF,X`. -/
theorem test_S9 :
    seen (step { bench 0x8000 [0x7E, 0xFF, 0x01] [(0x0200, 0x02)] with x := 0x01, p := Status.ofByte 0x01 })
      (fun s => (s.p.toByte, s.pc, s.ram.get 0x200, s.stepCycles)) = some (0x80, 0x8003, 0x81, 7) := by decide

/-- Vector J1: `BNE -5`. -/
theorem test_J1 :
    seen (step { bench 0x8008 [0xD0, 0xFB] with p := Status.ofByte 0x00 })
      (fun s => (s.pc, s.p.toByte, s.stepCycles)) = some (0x8005, 0x00, 2) := by decide

/-- Vector J2: `BNE -5`. -/
theorem test_J2 :
    seen (step { bench 0x8008 [0xD0, 0xFB] with p := Status.ofByte 0x02 })
      (fun s => (s.pc, s.p.toByte, s.stepCycles)) = some (0x800A, 0x02, 2) := by decide

/-- Vector J3: `BEQ +127`. -/
theorem test_J3 :
    seen (step { bench 0x80F0 [0xF0, 0x7F] with p := Status.ofByte 0x02 })
      (fun s => (s.pc, s.p.toByte, s.stepCycles)) = some (0x8171, 0x02, 2) := by decide

/-- Vector J4: `BCC +0`. -/
theorem test_J4 :
    seen (step { bench 0x8000 [0x90, 0x00] with p := Status.ofByte 0x00 })
      (fun s => (s.pc, s.p.toByte, s.stepCycles)) = some (0x8002, 0x00, 2) := by decide

/-- Vector J5: `BCS -2`. -/
theorem test_J5 :
    seen (step { bench 0x8000 [0xB0, 0xFE] with p := Status.ofByte 0x01 })
      (fun s => (s.pc, s.p.toByte, s.stepCycles)) = some (0x8000, 0x01, 2) := by decide

/-- Vector J6: `BPL +16`. -/
theorem test_J6 :
    seen (step (bench 0xFFF0 [0x10, 0x10]))
      (fun s => (s.pc, s.p.toByte, s.stepCycles)) = some (0x0002, 0x00, 2) := by decide

/-- Vector J7: `BMI -128`. -/
theorem test_J7 :
    seen (step { bench 0x8000 [0x30, 0x80] with p := Status.ofByte 0x80 })
      (fun s => (s.pc, s.p.toByte, s.stepCycles)) = some (0x7F82, 0x80, 2) := by decide

/-- Vector J8: `BVC +2`. -/
theorem test_J8 :
    seen (step { bench 0x8000 [0x50, 0x02] with p := Status.ofByte 0x40 })
      (fun s => (s.pc, s.p.toByte, s.stepCycles)) = some (0x8002, 0x40, 2) := by decide

/-- Vector J9: `BVS +2`. -/
theorem test_J9 :
    seen (step { bench 0x8000 [0x70, 0x02] with p := Status.ofByte 0x40 })
      (fun s => (s.pc, s.p.toByte, s.stepCycles)) = some (0x8004, 0x40, 2) := by decide

/-- Vector L1: `LDA #$00`. -/
theorem test_L1 :
    seen (step { bench 0x8000 [0xA9, 0x00] with p := Status.ofByte 0x80 })
      (fun s => (s.p.toByte, s.pc, s.stepCycles)) = some (0x02, 0x8002, 2) := by decide

/-- Vector L2: `LDA #$80`. -/
theorem test_L2 :
    seen (step (bench 0x8000 [0xA9, 0x80]))
      (fun s => (s.a, s.p.toByte, s.pc, s.stepCycles)) = some (0x80, 0x80, 0x8002, 2) := by decide

/-- Vector L3: `LDX $FF,Y`. -/
theorem test_L3 :
    seen (step { bench 0x8000 [0xB6, 0xFF] [(0x0001, 0x44)] with y := 0x02 })
      (fun s => (s.x, s.pc, s.p.toByte, s.stepCycles)) = some (0x44, 0x8002, 0x00, 4) := by decide

/-- Vector L4: `LDA $10FF,X`. -/
theorem test_L4 :
    seen (step { bench 0x8000 [0xBD, 0xFF, 0x10] [(0x0100, 0x99)] with x := 0x01 })
      (fun s => (s.a, s.p.toByte, s.pc, s.stepCycles)) = some (0x99, 0x80, 0x8003, 4) := by decide

/-- Vector L5: `LDY $C005`. -/
theorem test_L5 :
    seen (step (bench 0x8000 [0xAC, 0x05, 0xC0]))
      (fun s => (s.p.toByte, s.pc, s.stepCycles)) = some (0x02, 0x8003, 4) := by decide

/-- Vector L6: `STA $10`. -/
theorem test_L6 :
    seen (step { bench 0x8000 [0x85, 0x10] with a := 0x5A })
      (fun s => (s.pc, s.p.toByte, s.ram.get 0x10, s.stepCycles)) = some (0x8002, 0x00, 0x5A, 3) := by decide

/-- Vector L7: `STX $FF,Y`. -/
theorem test_L7 :
    seen (step { bench 0x8000 [0x96, 0xFF] with x := 0x77, y := 0x03 })
      (fun s => (s.pc, s.p.toByte, s.ram.get 0x2, s.stepCycles)) = some (0x8002, 0x00, 0x77, 4) := by decide

/-- Vector L8: `STY $1800`. -/
theorem test_L8 :
    seen (step { bench 0x8000 [0x8C, 0x00, 0x18] with y := 0x33 })
      (fun s => (s.pc, s.p.toByte, s.ram.get 0x0, s.stepCycles)) = some (0x8003, 0x00, 0x33, 4) := by decide

/-- Vector L9: `TAX`. -/
theorem test_L9 :
    seen (step { bench 0x8000 [0xAA] with a := 0x80 })
      (fun s => (s.x, s.p.toByte, s.pc, s.stepCycles)) = some (0x80, 0x80, 0x8001, 2) := by decide

/-- Vector L10: `TAY`. -/
theorem test_L10 :
    seen (step { bench 0x8000 [0xA8] with a := 0x00, y := 0x05 })
      (fun s => (s.y, s.p.toByte, s.pc, s.stepCycles)) = some (0x00, 0x02, 0x8001, 2) := by decide

/-- Vector L11: `TXA`. -/
theorem test_L11 :
    seen (step { bench 0x8000 [0x8A] with x := 0x01, a := 0xFF })
      (fun s => (s.a, s.pc, s.p.toByte, s.stepCycles)) = some (0x01, 0x8001, 0x00, 2) := by decide

/-- Vector L12: `TYA`. -/
theorem test_L12 :
    seen (step { bench 0x8000 [0x98] with y := 0x90 })
      (fun s => (s.a, s.p.toByte, s.pc, s.stepCycles)) = some (0x90, 0x80, 0x8001, 2) := by decide

/-- Vector L13: `TSX`. -/
theorem test_L13 :
    seen (step { bench 0x8000 [0xBA] with sp := 0x00, x := 0x55 })
      (fun s => (s.x, s.p.toByte, s.pc, s.stepCycles)) = some (0x00, 0x02, 0x8001, 2) := by decide

/-- Vector L14: `TXS`. -/
theorem test_L14 :
    seen (step { bench 0x8000 [0x9A] with x := 0x00, p := Status.ofByte 0x00 })
      (fun s => (s.sp, s.pc, s.p.toByte, s.stepCycles)) = some (0x00, 0x8001, 0x00, 2) := by decide

/-- Vector K1: `PHA`. -/
theorem test_K1 :
    seen (step { bench 0x8000 [0x48] with a := 0x11, sp := 0x00 })
      (fun s => (s.sp, s.pc, s.p.toByte, s.ram.get 0x100, s.stepCycles)) = some (0xFF, 0x8001, 0x00, 0x11, 3) := by decide

/-- Vector K2: `PLA`. -/
theorem test_K2 :
    seen (step { bench 0x8000 [0x68] [(0x0100, 0x80)] with sp := 0xFF })
      (fun s => (s.a, s.sp, s.p.toByte, s.pc, s.stepCycles)) = some (0x80, 0x00, 0x80, 0x8001, 4) := by decide

/-- Vector K3: `PHP`. -/
theorem test_K3 :
    seen (step { bench 0x8000 [0x08] with p := Status.ofByte 0x00 })
      (fun s => (s.sp, s.pc, s.p.toByte, s.ram.get 0x1ff, s.stepCycles)) = some (0xFE, 0x8001, 0x00, 0x30, 3) := by decide

/-- Vector K4: `PHP`. -/
theorem test_K4 :
    seen (step { bench 0x8000 [0x08] with p := Status.ofByte 0xCF })
      (fun s => (s.sp, s.pc, s.p.toByte, s.ram.get 0x1ff, s.stepCycles)) = some (0xFE, 0x8001, 0xCF, 0xFF, 3) := by decide

/-- Vector K5: `PLP`. -/
theorem test_K5 :
    seen (step { bench 0x8000 [0x28] [(0x01FF, 0xFF)] with sp := 0xFE })
      (fun s => (s.sp, s.p.toByte, s.pc, s.stepCycles)) = some (0xFF, 0xCF, 0x8001, 4) := by decide

/-- Vector K6: `PLP`. -/
theorem test_K6 :
    seen (step { bench 0x8000 [0x28] [(0x01FF, 0x30)] with sp := 0xFE, p := Status.ofByte 0xC3 })
      (fun s => (s.sp, s.p.toByte, s.pc, s.stepCycles)) = some (0xFF, 0x00, 0x8001, 4) := by decide

/-- Vector T1: `JMP $C000`. -/
theorem test_T1 :
    seen (step (bench 0x8000 [0x4C, 0x00, 0xC0]))
      (fun s => (s.pc, s.p.toByte, s.stepCycles)) = some (0xC000, 0x00, 3) := by decide

/-- Vector T2: `JMP ($02FF)`. -/
theorem test_T2 :
    seen (step (bench 0x8000 [0x6C, 0xFF, 0x02] [(0x02FF, 0x34), (0x0200, 0x12), (0x0300, 0x56)]))
      (fun s => (s.pc, s.p.toByte, s.stepCycles)) = some (0x1234, 0x00, 5) := by decide

/-- Vector T4: `JMP ($0200)`. -/
theorem test_T4 :
    seen (step (bench 0x8000 [0x6C, 0x00, 0x02] [(0x0200, 0x00), (0x0201, 0x90)]))
      (fun s => (s.pc, s.p.toByte, s.stepCycles)) = some (0x9000, 0x00, 5) := by decide

/-- Vector T5: `JSR $8010`. -/
theorem test_T5 :
    seen (step (bench 0x800A [0x20, 0x10, 0x80]))
      (fun s => (s.sp, s.pc, s.p.toByte, s.ram.get 0x1fe, s.ram.get 0x1ff, s.stepCycles)) = some (0xFD, 0x8010, 0x00, 0x0C, 0x80, 6) := by decide

/-- Vector T6: `JSR $9000`. -/
theorem test_T6 :
    seen (step { bench 0x8000 [0x20, 0x00, 0x90] with sp := 0x00 })
      (fun s => (s.sp, s.pc, s.p.toByte, s.ram.get 0x100, s.ram.get 0x1ff, s.stepCycles)) = some (0xFE, 0x9000, 0x00, 0x80, 0x02, 6) := by decide

/-- Vector T7: `RTS`. -/
theorem test_T7 :
    seen (step { bench 0x8000 [0x60] [(0x01FE, 0x0C), (0x01FF, 0x80)] with sp := 0xFD })
      (fun s => (s.sp, s.pc, s.p.toByte, s.stepCycles)) = some (0xFF, 0x800D, 0x00, 6) := by decide

/-- Vector T8: `RTS`. -/
theorem test_T8 :
    seen (step { bench 0x8000 [0x60] [(0x01FE, 0xFF), (0x01FF, 0xFF)] with sp := 0xFD })
      (fun s => (s.sp, s.pc, s.p.toByte, s.stepCycles)) = some (0xFF, 0x0000, 0x00, 6) := by decide

/-- Vector T9: `RTI`. -/
theorem test_T9 :
    seen (step { bench 0x8000 [0x40] [(0x01FD, 0x33), (0x01FE, 0x09), (0x01FF, 0x80)] with sp := 0xFC })
      (fun s => (s.sp, s.p.toByte, s.pc, s.stepCycles)) = some (0xFF, 0x03, 0x8009, 6) := by decide

/-- Vector T10: `RTI`. -/
theorem test_T10 :
    seen (step { bench 0x8000 [0x40] [(0x01FD, 0xFF), (0x01FE, 0x00), (0x01FF, 0x90)] with sp := 0xFC })
      (fun s => (s.sp, s.p.toByte, s.pc, s.stepCycles)) = some (0xFF, 0xCF, 0x9000, 6) := by decide

/-- Vector F1: `CLC`. -/
theorem test_F1 :
    seen (step { bench 0x8000 [0x18] with p := Status.ofByte 0xCF })
      (fun s => (s.p.toByte, s.pc, s.stepCycles)) = some (0xCE, 0x8001, 2) := by decide

/-- Vector F2: `SEC`. -/
theorem test_F2 :
    seen (step (bench 0x8000 [0x38]))
      (fun s => (s.p.toByte, s.pc, s.stepCycles)) = some (0x01, 0x8001, 2) := by decide

/-- Vector F3: `CLI`. -/
theorem test_F3 :
    seen (step { bench 0x8000 [0x58] with p := Status.ofByte 0x04 })
      (fun s => (s.p.toByte, s.pc, s.stepCycles)) = some (0x00, 0x8001, 2) := by decide

/-- Vector F4: `SEI`. -/
theorem test_F4 :
    seen (step (bench 0x8000 [0x78]))
      (fun s => (s.p.toByte, s.pc, s.stepCycles)) = some (0x04, 0x8001, 2) := by decide

/-- Vector F5: `CLD`. -/
theorem test_F5 :
    seen (step { bench 0x8000 [0xD8] with p := Status.ofByte 0x08 })
      (fun s => (s.p.toByte, s.pc, s.stepCycles)) = some (0x00, 0x8001, 2) := by decide

/-- Vector F6: `SED`. -/
theorem test_F6 :
    seen (step (bench 0x8000 [0xF8]))
      (fun s => (s.p.toByte, s.pc, s.stepCycles)) = some (0x08, 0x8001, 2) := by decide

/-- Vector F7: `CLV`. -/
theorem test_F7 :
    seen (step { bench 0x8000 [0xB8] with p := Status.ofByte 0x41 })
      (fun s => (s.p.toByte, s.pc, s.stepCycles)) = some (0x01, 0x8001, 2) := by decide

/-- Vector F8: `NOP`. -/
theorem test_F8 :
    seen (step { bench 0x8000 [0xEA] with a := 0x12, p := Status.ofByte 0x83 })
      (fun s => (s.pc, s.p.toByte, s.stepCycles)) = some (0x8001, 0x83, 2) := by decide

/-- Vector M1: `LDA $FF,X`. -/
theorem test_M1 :
    seen (step { bench 0x8000 [0xB5, 0xFF] [(0x0001, 0x21)] with x := 0x02 })
      (fun s => (s.a, s.pc, s.p.toByte, s.stepCycles)) = some (0x21, 0x8002, 0x00, 4) := by decide

/-- Vector M2: `LDA ($FE,X)`. -/
theorem test_M2 :
    seen (step { bench 0x8000 [0xA1, 0xFE]
        [(0x00FF, 0x00), (0x0000, 0x03), (0x0100, 0x04), (0x0300, 0xAB), (0x0400, 0xCD)] with
        x := 0x01 })
      (fun s => (s.a, s.p.toByte, s.pc, s.stepCycles)) = some (0xAB, 0x80, 0x8002, 6) := by decide

/-- Vector M4: `LDA ($80,X)`. -/
theorem test_M4 :
    seen (step { bench 0x8000 [0xA1, 0x80] [(0x0010, 0x00), (0x0011, 0x02), (0x0200, 0x5E)] with x := 0x90 })
      (fun s => (s.a, s.pc, s.p.toByte, s.stepCycles)) = some (0x5E, 0x8002, 0x00, 6) := by decide

/-- Vector M5: `LDA ($10),Y`. -/
theorem test_M5 :
    seen (step { bench 0x8000 [0xB1, 0x10] [(0x0010, 0xF8), (0x0011, 0x01), (0x0208, 0x66)] with y := 0x10 })
      (fun s => (s.a, s.pc, s.p.toByte, s.stepCycles)) = some (0x66, 0x8002, 0x00, 5) := by decide

/-- Vector M6: `LDA ($FF),Y`. -/
theorem test_M6 :
    seen (step { bench 0x8000 [0xB1, 0xFF] [(0x00FF, 0x10), (0x0000, 0x02), (0x0211, 0x77)] with y := 0x01 })
      (fun s => (s.a, s.pc, s.p.toByte, s.stepCycles)) = some (0x77, 0x8002, 0x00, 5) := by decide

/-- Vector M7: `LDA $FFFF,X`. -/
theorem test_M7 :
    seen (step { bench 0x8000 [0xBD, 0xFF, 0xFF] [(0x0001, 0x42)] with x := 0x02 })
      (fun s => (s.a, s.pc, s.p.toByte, s.stepCycles)) = some (0x42, 0x8003, 0x00, 4) := by decide

/-- Vector M9: `STA ($10),Y`. -/
theorem test_M9 :
    seen (step { bench 0x8000 [0x91, 0x10] [(0x0010, 0x00), (0x0011, 0x03)] with a := 0x99, y := 0x05 })
      (fun s => (s.pc, s.p.toByte, s.ram.get 0x305, s.stepCycles)) = some (0x8002, 0x00, 0x99, 6) := by decide

/-- Vector E4: `LDA $4015`. -/
theorem test_E4 :
    seen (step { bench 0x8000 [0xAD, 0x15, 0x40] with a := 0x55 })
      (fun s => (s.a, s.p.toByte, s.pc, s.stepCycles)) = some (0x00, 0x02, 0x8003, 4) := by decide

/-- Vector T3: `JMP ($02FF)`. -/
theorem test_T3 :
    seen (step { bench 0x8000 [0x6C, 0xFF, 0x02]
        [(0x02FF, 0x34), (0x0200, 0x12), (0x0300, 0x56)] with
        params := { Params.default with jmpIndWrap := false } })
      (fun s => (s.pc, s.stepCycles)) = some (0x5634, 5) := by decide

/-- Vector M3: `LDA ($FE,X)`. -/
theorem test_M3 :
    seen (step { bench 0x8000 [0xA1, 0xFE]
        [(0x00FF, 0x00), (0x0000, 0x03), (0x0100, 0x04), (0x0300, 0xAB), (0x0400, 0xCD)] with
        x := 0x01, params := { Params.default with zpPtrWrap := false } })
      (fun s => (s.a, s.p.toByte, s.pc, s.stepCycles)) = some (0xCD, 0x80, 0x8002, 6) := by decide

/-- Vector E6: `LDA $6000`. -/
theorem test_E6 :
    seen (step { bench 0x8000 [0xAD, 0x00, 0x60] with
        a := 0x00, params := { Params.default with stubRead := 0xEE } })
      (fun s => (s.a, s.p.toByte, s.pc, s.stepCycles)) = some (0xEE, 0x80, 0x8003, 4) := by decide

/-! ### The bus, its reports and its log -/

/-- Vector E1: the newest event of a store to program ROM. -/
theorem test_E1 :
    seen (step { bench 0x8000 [0x8D, 0x00, 0x80] with a := 0x55 }) (fun s => (s.log.head?, s.cart.prg)) =
      some (some (.droppedWrite 0x8000 0x55 .romWrite), (bench 0x8000 [0x8D, 0x00, 0x80]).cart.prg) := by decide

/-- Vector E2: a store to I/O register 2, read-only by default. -/
theorem test_E2 :
    seen (step { bench 0x8000 [0x8D, 0x02, 0x20] with a := 0x55 }) (fun s => (s.log.head?, s.log.length)) =
      some (some (.droppedWrite 0x2002 0x55 .readOnlyIo), 5) := by decide

/-- Vectors E3 and E7, at the bus: a writable I/O register through its mirror, and a stub. -/
theorem test_bus_writes :
    (write8 0x3008 0x55 State.reset).log = [.ioWrite 0 0x55] ∧
    (write8 0x5000 0x55 State.reset).log = [.droppedWrite 0x5000 0x55 .stubWrite] := by decide

/-- Vector W12: the log of one ADC zero page, the newest event first. -/
theorem test_W12_log :
    seen (step { bench 0x8000 [0x65, 0xAA] [(0xAA, 0x01)] with a := 0x01 }) (fun s => s.log) =
      some [.read 0x00AA 0x01, .read 0x8001 0xAA, .read 0x8000 0x65] := by decide

/-- Program P5, step 5: a store's discarded read comes before its dropped write. -/
theorem test_P5_store_read :
    seen (step { bench 0x8000 [0x8D, 0x00, 0x80] with a := 0x80 }) (fun s => s.log.take 2) =
      some [.droppedWrite 0x8000 0x80 .romWrite, .read 0x8000 0x8D] := by decide

/-- Program P5 with `P_STORE_READS` false: the read is absent. -/
theorem test_P5_no_store_read :
    seen (step { bench 0x8000 [0x8D, 0x00, 0x40] with params := { Params.default with storeReads := false } })
      (fun s => s.log.take 2) = some [.droppedWrite 0x4000 0x00 .stubWrite, .read 0x8002 0x40] := by decide

/-- Vector M8, at the bus: 0x200A is I/O register 2, whatever the device answers. -/
theorem test_M8_bus : busTarget 0x200A = .io 2 := by decide

/-- Vector PM6: 0x3FFF is I/O register 7. -/
theorem test_PM6_bus : busTarget 0x3FFF = .io 7 := by decide

/-- Vector W7: one RAM write through all four mirrors. -/
theorem test_W7 :
    let s := write8 0x07FF 0x5A State.reset
    [s.busRead 0x07FF, s.busRead 0x0FFF, s.busRead 0x17FF, s.busRead 0x1FFF] =
      [some 0x5A, some 0x5A, some 0x5A, some 0x5A] := by decide

/-- Vector W8: a 16-bit push at SP = 0 wraps. -/
theorem test_W8 :
    let s := push16 0xABCD { State.reset with sp := 0x00 }
    (s.ram.get 0x100, s.ram.get 0x1FF, s.sp) = (0xAB, 0xCD, 0xFE) := by decide

/-- Writing the fill value takes the entry away, so that equal memories are equal lists. -/
theorem test_memory_canonical :
    (Memory.set [(1, 5), (7, 6)] 7 0 : Memory) = [(1, 5)] ∧ (Memory.set [(1, 5), (7, 6)] 3 9 : Memory) =
      [(1, 5), (3, 9), (7, 6)] ∧ Memory.wf [(1, 5), (7, 6)] = true ∧ Memory.wf [(7, 6), (1, 5)] = false ∧
      Memory.wf [(1, 0)] = false := by decide

/-! ### Faults and program-ROM mapping -/

/-- Vector X1: the fault, with PC at the opcode. -/
theorem test_X1 :
    faultOf (step { bench 0x8000 [0x02] with a := 0x12 }) =
      some (.unimplementedOpcode 0x02 0x8000 { bench 0x8000 [0x02] with
        a := 0x12, fault := some (.unimplementedOpcode 0x02 0x8000), log := [.read 0x8000 0x02] }) := by decide

/-- Vector X2: from RAM. -/
theorem test_X2 :
    (finalOf (step (bench 0x0200 [0xFF]))).map (fun s => (s.pc, s.fault)) =
      some (0x0200, some (.unimplementedOpcode 0xFF 0x0200)) := by decide

/-- Vector PM1: one bank, mirrored at 0xC000. -/
theorem test_PM1 :
    seen (step { withBanks [ramOf [(0, 0xAD), (1, 0x23), (2, 0xC1), (0x0123, 0x5A)]] State.reset with pc := 0x8000 })
      (fun s => (s.a, s.pc)) = some (0x5A, 0x8003) := by decide

/-- Vector PM2: the same with `P_PRG_MIRROR_SINGLE` false. -/
theorem test_PM2 :
    (finalOf (step { withBanks [ramOf [(0, 0xAD), (1, 0x23), (2, 0xC1), (0x0123, 0x5A)]] State.reset with
      pc := 0x8000, params := { Params.default with prgMirrorSingle := false } })).map
      (fun s => (s.fault, s.pc, s.a)) = some (some (.missingPrgBank 0xC123), 0x8003, 0x00) := by decide

/-- Vector PM3: no bank, at the opcode fetch. -/
theorem test_PM3 :
    finalOf (step { withBanks [] State.reset with pc := 0x8000 }) =
      some { withBanks [] State.reset with pc := 0x8000, fault := some (.missingPrgBank 0x8000) } := by decide

/-- Vector PM4: three banks; 0xC000 is bank 1. -/
theorem test_PM4 : (withBanks [[(0, 1)], [(0, 2)], [(0, 3)]] State.reset).busRead 0xC000 = some 2 := by decide

/-- Vector PM5: BRK with no vector bank keeps its pushes. -/
theorem test_PM5 :
    (finalOf (step { withBanks [] (bench 0x0200 [0x00]) with p := Status.ofByte 0x01 })).map
      (fun s => ([s.ram.get 0x1FF, s.ram.get 0x1FE, s.ram.get 0x1FD, s.sp, s.p.toByte], s.fault, s.pc)) =
      some ([0x02, 0x02, 0x31, 0xFC, 0x05], some (.missingPrgBank 0xFFFE), 0x0201) := by decide

/-- 47_control_flow.md R191, the example: BRK with a vector. -/
theorem test_brk_example :
    seen (step { withBanks [ramOf [(0x0007, 0x00)], ramOf [(0x3FFF, 0xC0)]] State.reset with
      pc := 0x8007, p := Status.ofByte 0x03 })
      (fun s => ([s.ram.get 0x1FF, s.ram.get 0x1FE, s.ram.get 0x1FD, s.sp, s.p.toByte], s.pc, s.stepCycles)) =
      some ([0x80, 0x09, 0x33, 0xFC, 0x07], 0xC000, 7) := by decide

/-- Program P6, its end: a faulted machine takes no step. -/
theorem test_P6_end :
    faultOf (step { State.reset with fault := some (.unimplementedOpcode 0x02 0x8001) }) =
      some (.alreadyFaulted (.unimplementedOpcode 0x02 0x8001)) := by decide

/-! ### The optional interrupt extension -/

/-- The machine of vectors Q1 to Q4. -/
def interruptBench (p : Byte) (nmi irq : Bool) : State :=
  { withBanks [ramOf [(0, 0xEA)], ramOf [(0x3FFB, 0xD0), (0x3FFF, 0xC0)]] State.reset with
    pc := 0x8000, p := Status.ofByte p, nmiPending := nmi, irqLine := irq
    params := { Params.default with irqNmi := true } }

/-- Vector Q1: IRQ taken. -/
theorem test_Q1 :
    seen (step (interruptBench 0x01 false true))
      (fun s => ([s.ram.get 0x1FF, s.ram.get 0x1FE, s.ram.get 0x1FD, s.sp, s.p.toByte], s.pc, s.stepCycles)) =
      some ([0x80, 0x00, 0x21, 0xFC, 0x05], 0xC000, 7) := by decide

/-- Vector Q2: IRQ masked; the NOP at 0x8000 runs. -/
theorem test_Q2 :
    seen (step (interruptBench 0x04 false true)) (fun s => (s.pc, s.sp, s.stepCycles)) =
      some (0x8001, 0xFF, 2) := by decide

/-- Vector Q3: NMI before IRQ, not masked. -/
theorem test_Q3 :
    seen (step (interruptBench 0x04 true true))
      (fun s => (s.ram.get 0x1FD, s.p.toByte, s.nmiPending, s.irqLine, s.pc)) =
      some (0x24, 0x04, false, true, 0xD000) := by decide

/-! ### The cartridge image -/

/-- An iNES header with the given counts and flags 6, every other byte 0. -/
def headerBytes (prg chr flags6 : Byte) : List Byte := headerMagic ++ [prg, chr, flags6] ++ List.replicate 9 0

/-- Vectors W10 and CL1: a header of zeros. -/
theorem test_CL1 : loadCartridge (List.replicate 16 0) = .error .badHeader := by rfl

/-- Vector CL2: a wrong magic byte. -/
theorem test_CL2 : loadCartridge ([0x4E, 0x45, 0x53, 0x1B] ++ List.replicate 12 0) = .error .badHeader := by rfl

/-- Vector CL3: a reserved byte that is not zero. -/
theorem test_CL3 : parseHeader (headerMagic ++ [1] ++ List.replicate 10 0 ++ [1]) = none := by decide

/-- Vector CL4: flags 9 and 10 are not checked. -/
theorem test_CL4 :
    parseHeader (headerMagic ++ [1, 0, 0, 0, 0, 0xFF, 0xFF] ++ List.replicate 5 0) =
      some ⟨1, 0, 0, 0, 0, 0xFF, 0xFF⟩ := by decide

/-- Vector CL7: the first program bank is short. -/
theorem test_CL7 : loadCartridge (headerBytes 1 0 0 ++ List.replicate 100 0) = .error .truncated := by rfl

/-- Vector CL8: the header is short. -/
theorem test_CL8 : loadCartridge (List.replicate 10 0x4E) = .error .truncated := by rfl

/-- Vector CL10: no banks. -/
theorem test_CL10 : loadCartridge (headerBytes 0 0 0) = .ok ⟨⟨0, 0, 0, 0, 0, 0, 0⟩, [], []⟩ := by rfl

/-- Vector W11: the reference header. -/
theorem test_W11 :
    (parseHeader [0x4E, 0x45, 0x53, 0x1A, 0x04, 0x02, 0x20, 0x40, 0, 0, 0, 0, 0, 0, 0, 0]).map
      (fun h => (h.prgCount, h.chrCount, h.hasTrainer, h.hasBattery, h.flags6, h.flags7)) =
      some (4, 2, false, false, 0x20, 0x40) := by decide

/-- 20_memory.md R58: the mapper number's nibbles. -/
theorem test_mapper_number : (Header.mapperNumber ⟨0, 0, 0x20, 0x40, 0, 0, 0⟩) = 0x42 := by decide

/-- 70_reset_and_hazards.md R231: the default launch is the construction state. -/
theorem test_launch_default (cart : Cartridge) (ram0 : Memory) (params : Params) :
    launch cart ram0 params LaunchRegisters.default = construct cart ram0 params := rfl

/-! ### Placing an instruction -/

/-- From reset, an ADC zero page placed by its table word runs as the first instruction. -/
theorem test_fetch_word :
    seen (step (State.reset.withFetchWord 16 0xAA65)) (fun s => (s.pc, s.stepCycles)) = some (2, 3) := by decide

/-- Where PC points into program ROM the word goes to the bank there. -/
theorem test_fetch_word_rom :
    seen (step ({ State.reset with pc := 0xFFFE }.withFetchWord 16 0x80A9)) (fun s => (s.a, s.pc)) =
      some (0x80, 0x0000) := by decide

/-! ### Witnesses: for each statement with hypotheses, values that meet them, at the ends of the ranges -/

theorem witness_DecodeEncodeRoundTrip :
    (Instr.bcc (-128)).wellFormed = true ∧ (Instr.bvs 127).wellFormed = true ∧
    (Instr.adcAbs 0xFFFF).wellFormed = true ∧ Instr.brk.wellFormed = true := by decide

theorem witness_EncodeDecodeRoundTrip :
    decode [0x65, 0xAA, 0x01] = .ok (.adcZp 0xAA) [0x01] ∧ decode [0x30, 0x80] = .ok (.bmi (-128)) [] := by decide

theorem witness_DecodeTotalWithExactly151Opcodes :
    (0x02 : Byte) ∈ undefinedOpcodes ∧ (0xFF : Byte) ∈ undefinedOpcodes ∧ (0x00 : Byte) ∉ undefinedOpcodes ∧
    (0xFE : Byte) ∉ undefinedOpcodes := by decide

theorem witness_StepRunsTheDecodedInstruction :
    let s := bench 0x8000 [0x6D, 0x00, 0x02]
    s.fault = none ∧ s.interruptDue = false ∧ decode [0x6D, 0x00, 0x02] = .ok (.adcAbs 0x0200) [] ∧
    Fetches [0x6D, 0x00, 0x02] s
      { s with pc := 0x8003, log := [.read 0x8002 0x02, .read 0x8001 0x00, .read 0x8000 0x6D] } :=
  ⟨by decide, by decide, by decide, by decide, by decide, by decide, rfl⟩

theorem witness_UndefinedOpcodeFaults :
    let s := bench 0xFFFF [0x02]
    s.fault = none ∧ s.interruptDue = false ∧ s.busRead s.pc = some 0x02 ∧ (0x02 : Byte) ∈ undefinedOpcodes ∧
    ∃ t, step s = .fault (.unimplementedOpcode 0x02 0xFFFF t) :=
  ⟨by decide, by decide, by decide, by decide, _, rfl⟩

/-- At the opcode fetch, and at an operand fetch that crosses from the stubs into absent program ROM. -/
theorem witness_MissingBankStopsTheFetch :
    (let s := { withBanks [] State.reset with pc := 0x8000 }
     s.fault = none ∧ s.interruptDue = false ∧ decode [] = .rejected .truncated ∧ Fetches [] s s ∧
     s.busRead s.pc = none) ∧
    (let s := { withBanks [] State.reset with pc := 0x7FFF, params := { Params.default with stubRead := 0xAD } }
     let t := { s with pc := 0x8000, log := [.read 0x7FFF 0xAD] }
     s.fault = none ∧ s.interruptDue = false ∧ decode [0xAD] = .rejected .truncated ∧ Fetches [0xAD] s t ∧
     t.busRead t.pc = none) :=
  ⟨⟨by decide, by decide, by decide, rfl, by decide⟩, by decide, by decide, by decide, ⟨by decide, rfl⟩, by decide⟩

theorem witness_FaultedMachineTakesNoStep :
    { State.reset with fault := some (.missingPrgBank 0x8000) }.fault = some (.missingPrgBank 0x8000) := rfl

theorem witness_ExecutionFaultsOnlyOnMissingBanks :
    (∃ f, exec (.ldaAbs 0x8000) (withBanks [] State.reset) = .fault f) ∧
    ∃ f, exec .brk (withBanks [] State.reset) = .fault f := ⟨⟨_, rfl⟩, _, rfl⟩

theorem witness_EveryInstructionCompletesWhenRomIsBacked :
    State.reset.romBacked = true ∧ (withBanks [[]] State.reset).romBacked = true := by decide

/-- Both ends of every range of the address decode. -/
theorem witness_AddressDecode :
    ((0x0000 : Word).toNat < 0x2000 ∧ (0x1FFF : Word).toNat < 0x2000) ∧
    (0x2000 ≤ (0x2000 : Word).toNat ∧ (0x3FFF : Word).toNat < 0x4000) ∧
    (0x4000 ≤ (0x4000 : Word).toNat ∧ (0x401F : Word).toNat < 0x4020) ∧
    (0x4020 ≤ (0x4020 : Word).toNat ∧ (0x5FFF : Word).toNat < 0x6000) ∧
    (0x6000 ≤ (0x6000 : Word).toNat ∧ (0x7FFF : Word).toNat < 0x8000) ∧
    (0x8000 ≤ (0x8000 : Word).toNat ∧ (0xBFFF : Word).toNat < 0xC000) ∧
    (0xC000 ≤ (0xC000 : Word).toNat ∧ 0xC000 ≤ (0xFFFF : Word).toNat) := by decide

theorem witness_RamWriteIsSeenThroughEveryMirror :
    (0x1FFF : Word).toNat < 0x2000 ∧ (3 : Nat) < 4 ∧ (0 : Nat) ≠ (0x1FFF : Word).toNat % 0x800 := by decide

theorem witness_ProgramRomReads :
    (0x8000 ≤ (0x8000 : Word).toNat ∧ (0xBFFF : Word).toNat < 0xC000 ∧ State.reset.cart.prg[0]? = some []) ∧
    (0xC000 ≤ (0xFFFF : Word).toNat ∧ State.reset.cart.prg[1]? = some []) ∧
    ((withBanks [[]] State.reset).cart.prg = [[]] ∧ State.reset.params.prgMirrorSingle = true) ∧
    { Params.default with prgMirrorSingle := false }.prgMirrorSingle = false ∧
    (withBanks [] State.reset).cart.prg = [] := by decide

theorem witness_RomAndStubAccesses :
    0x8000 ≤ (0xFFFF : Word).toNat ∧ (0x4000 ≤ (0x7FFF : Word).toNat ∧ (0x7FFF : Word).toNat < 0x8000) ∧
    (0x4000 ≤ (0x401F : Word).toNat ∧ (0x401F : Word).toNat < 0x4020) ∧
    (0x4020 ≤ (0x4020 : Word).toNat ∧ (0x4020 : Word).toNat < 0x8000) := by decide

theorem witness_IoWindowAccesses :
    (0x2000 ≤ (0x3FFA : Word).toNat ∧ (0x3FFA : Word).toNat < 0x4000 ∧
      (2 : IoReg) = BitVec.ofNat 3 ((0x3FFA : Word).toNat % 8) ∧ (2 : IoReg) ∈ State.reset.params.ioReadOnly) ∧
    ((0 : IoReg) = BitVec.ofNat 3 ((0x2000 : Word).toNat % 8) ∧ (0 : IoReg) ∉ State.reset.params.ioReadOnly) := by
  decide

theorem witness_WordsAreLittleEndian :
    let s := withBanks [[], [(0x3FFF, 0x34)]] { State.reset with ram := [(0, 0x12)] }
    (0x0000 : Word) = BitVec.ofNat 16 (((0xFFFF : Word).toNat + 1) % 65536) ∧ s.busRead 0xFFFF = some 0x34 ∧
    (afterRead s 0xFFFF 0x34).busRead 0x0000 = some 0x12 := by decide

/-- An Immediate operand and memory operands of the read instructions: readable at reset. -/
theorem witness_LoadResults :
    ldaForm (.immediate 0x80) = some (.ldaImm 0x80) ∧ operandValue State.reset (.immediate 0x80) = some 0x80 ∧
    ldxForm (.memory (.zeroPageY 0xFF)) = some (.ldxZpy 0xFF) ∧
    operandValue State.reset (.memory (.zeroPageY 0xFF)) = some 0 ∧
    ldyForm (.memory (.absoluteX 0xFFFF)) = some (.ldyAbx 0xFFFF) ∧
    operandValue State.reset (.memory (.absoluteX 0xFFFF)) = some 0 := by decide

theorem witness_AdcResult :
    adcForm (.memory (.indexedIndirect 0xFF)) = some (.adcIzx 0xFF) ∧
    operandValue State.reset (.memory (.indexedIndirect 0xFF)) = some 0 := by decide

theorem witness_SbcResult :
    sbcForm (.memory (.indirectIndexed 0xFF)) = some (.sbcIzy 0xFF) ∧
    operandValue State.reset (.memory (.indirectIndexed 0xFF)) = some 0 := by decide

theorem witness_LogicAndBitResults :
    andForm (.immediate 0) = some (.andImm 0) ∧ oraForm (.immediate 0) = some (.oraImm 0) ∧
    eorForm (.immediate 0) = some (.eorImm 0) ∧ bitForm (.memory (.absolute 0x1FFF)) = some (.bitAbs 0x1FFF) ∧
    operandValue State.reset (.immediate 0) = some 0 ∧
    operandValue State.reset (.memory (.absolute 0x1FFF)) = some 0 := by decide

theorem witness_CompareResults :
    cmpForm (.immediate 0xFF) = some (.cmpImm 0xFF) ∧ cpxForm (.immediate 0xFF) = some (.cpxImm 0xFF) ∧
    cpyForm (.immediate 0xFF) = some (.cpyImm 0xFF) ∧ operandValue State.reset (.immediate 0xFF) = some 0xFF := by
  decide

/-- With and without the discarded read. -/
theorem witness_StoreResults :
    staForm (.absolute 0x8000) = some (.staAbs 0x8000) ∧ State.reset.params.storeReads = true ∧
    operandValue State.reset (.memory (.absolute 0x8000)) = some 0 ∧
    stxForm (.zeroPageY 0xFF) = some (.stxZpy 0xFF) ∧ styForm (.zeroPageX 0xFF) = some (.styZpx 0xFF) ∧
    operandValue State.reset (.memory (.zeroPageX 0xFF)) = some 0 ∧
    { Params.default with storeReads := false }.storeReads = false := by decide

theorem witness_IncrementAndDecrementResults :
    incForm (.zeroPage 0xFF) = some (.incZp 0xFF) ∧ decForm (.absoluteX 0xFFFF) = some (.decAbx 0xFFFF) ∧
    operandValue State.reset (.memory (.zeroPage 0xFF)) = some 0 ∧
    operandValue State.reset (.memory (.absoluteX 0xFFFF)) = some 0 := by decide

theorem witness_ShiftAndRotateResults :
    aslForm (.zeroPage 0) = some (.aslZp 0) ∧ lsrForm (.zeroPageX 0) = some (.lsrZpx 0) ∧
    rolForm (.absolute 0) = some (.rolAbs 0) ∧ rorForm (.absoluteX 0) = some (.rorAbx 0) ∧
    operandValue State.reset (.memory (.zeroPage 0)) = some 0 ∧
    operandValue State.reset (.memory (.zeroPageX 0)) = some 0 ∧
    operandValue State.reset (.memory (.absolute 0)) = some 0 ∧
    operandValue State.reset (.memory (.absoluteX 0)) = some 0 := by decide

theorem witness_BranchResults : (-128 : Int) ≤ -128 ∧ (-128 : Int) ≤ 127 ∧ (127 : Int) ≤ 127 := by decide

/-- The pointer's low byte missing; both bytes there; the low byte there and the high byte missing. -/
theorem witness_JmpResults :
    (withBanks [] State.reset).busRead 0x8000 = none ∧
    (State.reset.busRead 0x02FF = some 0 ∧
      (afterRead State.reset 0x02FF 0).busRead (jmpHigh State.reset 0x02FF) = some 0) ∧
    (let s := { withBanks [] State.reset with params := { Params.default with jmpIndWrap := false } }
     s.busRead 0x7FFF = some 0 ∧ (afterRead s 0x7FFF 0).busRead (jmpHigh s 0x7FFF) = none) := by decide

theorem witness_BrkResult :
    State.reset.mappedBank 1 = some [] ∧ (withBanks [] State.reset).mappedBank 1 = none := by decide

theorem witness_BrkThenRti : State.reset.mappedBank 1 = some [] := by decide

theorem witness_MissingBankStopsTheOperandRead :
    let s := withBanks [] State.reset
    (ldaForm ∈ operandReaders ∧ ldaForm (.memory (.absolute 0x8000)) = some (.ldaAbs 0x8000) ∧
      operandValue s (.memory (.absolute 0x8000)) = none) ∧
    (incForm ∈ modifiers ∧ incForm (.absolute 0xFFFF) = some (.incAbs 0xFFFF) ∧
      operandValue s (.memory (.absolute 0xFFFF)) = none) ∧
    (staForm ∈ storers ∧ staForm (.absolute 0xC000) = some (.staAbs 0xC000) ∧ s.params.storeReads = true ∧
      operandValue s (.memory (.absolute 0xC000)) = none) :=
  ⟨⟨by simp [operandReaders], rfl, by decide⟩, ⟨by simp [modifiers], rfl, by decide⟩, by simp [storers], rfl,
    rfl, by decide⟩

theorem witness_FlagFrame :
    (∃ t, exec (.adcImm 0xFF) State.reset = .next t) ∧ Flag.I ∉ flagsWritten (Instr.adcImm 0xFF).mnemonic :=
  ⟨⟨_, rfl⟩, by decide⟩

theorem witness_RegisterFrame :
    (∃ t, exec .tax State.reset = .next t) ∧ writesA .tax = false ∧ writesY .tax = false ∧ writesSp .tax = false ∧
    transfersControl .tax = false ∧ (∃ t, exec .tay State.reset = .next t) ∧ writesX .tay = false :=
  ⟨⟨_, rfl⟩, rfl, rfl, rfl, rfl, ⟨_, rfl⟩, rfl⟩

theorem witness_CartridgeAndInputsFrame : ∃ t, exec (.staAbs 0xFFFF) State.reset = .next t := ⟨_, rfl⟩

/-- An instruction that writes nothing, and a push, at the address just above the pushed byte. -/
theorem witness_MemoryFrameOfNonStoringAndPushing :
    ((∃ t, exec .nop State.reset = .next t) ∧ writesMemory .nop = false ∧
      ∀ e ∈ pushedTo .nop State.reset, busTarget 0 ≠ busTarget e) ∧
    ((∃ t, exec .pha State.reset = .next t) ∧ pushedTo .pha State.reset ≠ [] ∧
      ∀ e ∈ pushedTo .pha State.reset, busTarget 0x0200 ≠ busTarget e) :=
  ⟨⟨⟨_, rfl⟩, rfl, fun _ h => by cases h⟩, ⟨_, rfl⟩, by simp [pushedTo, Instr.mnemonic, Instr.row],
    by simp only [pushedTo, Instr.mnemonic, Instr.row, List.mem_singleton, forall_eq]; decide⟩

theorem witness_MemoryFrameOfStoring :
    staForm ∈ storers ++ modifiers ∧ staForm (.zeroPage 0xFF) = some (.staZp 0xFF) ∧
    resolve (.zeroPage 0xFF) State.reset = .ok 0x00FF State.reset ∧
    (∃ t, exec (.staZp 0xFF) State.reset = .next t) ∧ busTarget 0x0100 ≠ busTarget 0x00FF :=
  ⟨by simp [storers], rfl, rfl, ⟨_, rfl⟩, by decide⟩

theorem witness_LogIsAppendOnly : ∃ t, step (bench 0x8000 [0xEA]) = .next t := ⟨_, rfl⟩

theorem witness_DecimalFlagIsStorageOnly :
    (Instr.adcImm 9).mnemonic ∉ [Mnemonic.PHP, .BRK, .SED, .CLD, .PLP, .RTI] ∧
    ∃ t, exec (.adcImm 9) State.reset = .next t := ⟨by decide, _, rfl⟩

theorem witness_BreakBitsAreUnobservable : ∃ t, step (bench 0x8000 [0x08]) = .next t := ⟨_, rfl⟩

/-- NMI, IRQ, an absent vector bank, and nothing due. -/
theorem witness_InterruptSequenceResult :
    (let s := interruptBench 0x04 true false
     s.fault = none ∧ s.params.irqNmi = true ∧ s.nmiPending = true ∧ (s.mappedBank 1).isSome = true) ∧
    (let s := interruptBench 0x00 false true
     s.irqLine = true ∧ s.p.i = false ∧ (withBanks [] s).mappedBank 1 = none) ∧
    State.reset.params.irqNmi = false ∧
    (let s := interruptBench 0x04 false true
     s.params.irqNmi = true ∧ s.nmiPending = false ∧ s.p.i = true) := by decide

theorem witness_StepKeepsInvariant :
    (bench 0x8000 [0x48]).inv = true ∧ ∃ t, step (bench 0x8000 [0x48]) = .next t := ⟨by decide, _, rfl⟩

theorem witness_HeaderValidation : (headerBytes 4 2 0x20).length = 16 := by decide

/-- An image with no banks, one with a trainer and one bank of each kind; short sources; a bad header. -/
theorem witness_CartridgeLoading :
    ((headerBytes 0 0 0).length = 16 ∧ parseHeader (headerBytes 0 0 0) = some ⟨0, 0, 0, 0, 0, 0, 0⟩) ∧
    (parseHeader (headerBytes 1 1 4) = some ⟨1, 1, 4, 0, 0, 0, 0⟩ ∧ (4 : Byte).getLsbD 2 = true ∧
      (List.replicate 512 (0 : Byte)).length = 512 ∧ (List.replicate 16384 (1 : Byte)).length = 16384 ∧
      (List.replicate 8192 (2 : Byte)).length = 8192) ∧
    (List.replicate 15 (0 : Byte)).length < 16 ∧
    (16 ≤ (List.replicate 16 (0 : Byte)).length ∧ parseHeader ((List.replicate 16 0).take 16) = none) ∧
    (parseHeader ((headerBytes 1 0 0).take 16) = some ⟨1, 0, 0, 0, 0, 0, 0⟩ ∧
      (headerBytes 1 0 0).length < imageSize ⟨1, 0, 0, 0, 0, 0, 0⟩) :=
  ⟨by decide, ⟨by decide, by decide, List.length_replicate, List.length_replicate, List.length_replicate⟩,
    by decide, by decide, by decide⟩

theorem witness_PoweredOnMachineMeetsInvariant :
    Memory.wfBelow ramSize [(0x07FF, 1)] = true ∧
    powerOn (headerBytes 0 0 0) [(0x07FF, 1)] Params.default =
      .ok (construct ⟨⟨0, 0, 0, 0, 0, 0, 0⟩, [], []⟩ [(0x07FF, 1)] Params.default) := ⟨by decide, rfl⟩

end Sys2Proof.Tests
end

section
/-! PROOF. What an instruction and a step may write: the frame statements (10_state.md R16 to R20, R29,
R32 to R36) and the machine's invariant (R27, R31). -/

namespace Sys2Proof.Machine

open Sys2Proof.Spec

/-! ### Flags -/

/-- From `p` to `q` no flag changes but those of `fs`. -/
def FlagsExcept (fs : List Flag) (p q : Status) : Prop := ∀ f, f ∈ fs ∨ flagOf q f = flagOf p f

theorem FlagsExcept.refl (fs : List Flag) (p : Status) : FlagsExcept fs p p := fun _ => .inr rfl

theorem FlagsExcept.trans {fs : List Flag} {p q r : Status} (h : FlagsExcept fs p q) (g : FlagsExcept fs q r) :
    FlagsExcept fs p r := fun f =>
  (h f).elim .inl fun h => (g f).elim .inl fun g => .inr (g.trans h)

theorem FlagsExcept.mono {fs gs : List Flag} {p q : Status} (h : FlagsExcept fs p q) (hs : fs ⊆ gs) :
    FlagsExcept gs p q := fun f => (h f).imp_left fun hf => hs hf

theorem setNZ_flags (p : Status) (v : Byte) : FlagsExcept [.N, .Z] p (p.setNZ v) := by
  intro f; cases f <;> simp [flagOf]

theorem afterSum_flags (p : Status) (r : Sum) : FlagsExcept [.N, .V, .Z, .C] p (p.afterSum r) := by
  intro f; cases f <;> simp [flagOf, Status.afterSum]

theorem afterCompare_flags (p : Status) (r m : Byte) : FlagsExcept [.N, .Z, .C] p (p.afterCompare r m) := by
  intro f; cases f <;> simp [flagOf, Status.afterCompare]

theorem afterBit_flags (p : Status) (a m : Byte) : FlagsExcept [.N, .V, .Z] p (p.afterBit a m) := by
  intro f; cases f <;> simp [flagOf, Status.afterBit]

theorem pulled_flags (p : Status) (w : Byte) : FlagsExcept [.N, .V, .D, .I, .Z, .C] p (p.pulled w) := by
  intro f; cases f <;> simp [flagOf, Status.pulled]

theorem setC_setNZ_flags (p : Status) (c : Bool) (v : Byte) :
    FlagsExcept [.N, .Z, .C] p ({ p with c := c }.setNZ v) := by
  intro f; cases f <;> simp [flagOf]

theorem setC_flags (p : Status) (c : Bool) : FlagsExcept [.C] p { p with c := c } := by
  intro f; cases f <;> simp [flagOf]

theorem setI_flags (p : Status) (i : Bool) : FlagsExcept [.I] p { p with i := i } := by
  intro f; cases f <;> simp [flagOf]

theorem setD_flags (p : Status) (d : Bool) : FlagsExcept [.D] p { p with d := d } := by
  intro f; cases f <;> simp [flagOf]

theorem setV_flags (p : Status) (v : Bool) : FlagsExcept [.V] p { p with v := v } := by
  intro f; cases f <;> simp [flagOf]

/-! ### Frames

A footprint says what a phase of a step may write; `Frame w s t` says that going from `s` to `t` wrote
nothing outside `w`. RAM and the log are in no footprint: every phase may store to RAM, keeping its form
and size, and add to the log. -/

/-- The flags, the registers, and of the other fields the returned count and the NMI latch. -/
structure Footprint where
  flags : List Flag := []
  a : Bool := false
  x : Bool := false
  y : Bool := false
  sp : Bool := false
  pc : Bool := false
  cycles : Bool := false
  nmi : Bool := false

/-- What the rules let an instruction write (10_state.md R16 to R20, R29). -/
def footprint (i : Instr) : Footprint where
  flags := flagsWritten i.mnemonic
  a := writesA i
  x := writesX i
  y := writesY i
  sp := writesSp i
  pc := transfersControl i

/-- What a whole step may write: everything but the stored bits 4 and 5 (10_state.md R27). -/
def stepFootprint : Footprint := ⟨[.N, .V, .D, .I, .Z, .C], true, true, true, true, true, true, true⟩

structure Frame (w : Footprint) (s t : State) : Prop where
  flags : FlagsExcept w.flags s.p t.p := by exact FlagsExcept.refl _ _
  a : w.a = false → t.a = s.a := by simp
  x : w.x = false → t.x = s.x := by simp
  y : w.y = false → t.y = s.y := by simp
  sp : w.sp = false → t.sp = s.sp := by simp
  pc : w.pc = false → t.pc = s.pc := by simp
  cycles : w.cycles = false → t.stepCycles = s.stepCycles := by simp
  nmi : w.nmi = false → t.nmiPending = s.nmiPending := by simp
  irq : t.irqLine = s.irqLine := by rfl
  cart : t.cart = s.cart := by rfl
  params : t.params = s.params := by rfl
  fault : t.fault = s.fault := by rfl
  log : s.log <:+ t.log := by simp
  ram : s.ram.wfBelow ramSize = true → t.ram.wfBelow ramSize = true := by exact id

namespace Frame

variable {w : Footprint} {s t u : State}

theorem trans (h : Frame w s t) (g : Frame w t u) : Frame w s u where
  flags := h.flags.trans g.flags
  a := fun hw => (g.a hw).trans (h.a hw)
  x := fun hw => (g.x hw).trans (h.x hw)
  y := fun hw => (g.y hw).trans (h.y hw)
  sp := fun hw => (g.sp hw).trans (h.sp hw)
  pc := fun hw => (g.pc hw).trans (h.pc hw)
  cycles := fun hw => (g.cycles hw).trans (h.cycles hw)
  nmi := fun hw => (g.nmi hw).trans (h.nmi hw)
  irq := g.irq.trans h.irq
  cart := g.cart.trans h.cart
  params := g.params.trans h.params
  fault := g.fault.trans h.fault
  log := h.log.trans g.log
  ram := g.ram ∘ h.ram

/-- Every footprint whose flags a step may write is part of a step's. -/
theorem inStep (h : Frame w s t) (hw : w.flags ⊆ stepFootprint.flags) : Frame stepFootprint s t where
  flags := h.flags.mono hw
  a := nofun
  x := nofun
  y := nofun
  sp := nofun
  pc := nofun
  cycles := nofun
  nmi := nofun
  irq := h.irq
  cart := h.cart
  params := h.params
  fault := h.fault
  log := h.log
  ram := h.ram

/-! One rule per update of the state. -/

theorem refl (w : Footprint) (s : State) : Frame w s s := {}
theorem setA (hw : w.a = true) (v : Byte) : Frame w s (s.setA v) := { a := by simp [hw] }
theorem setX (hw : w.x = true) (v : Byte) : Frame w s (s.setX v) := { x := by simp [hw] }
theorem setY (hw : w.y = true) (v : Byte) : Frame w s (s.setY v) := { y := by simp [hw] }
theorem setSp (hw : w.sp = true) (v : Byte) : Frame w s (s.setSp v) := { sp := by simp [hw] }
theorem setPc (hw : w.pc = true) (v : Word) : Frame w s (s.setPc v) := { pc := by simp [hw] }
theorem setP {q : Status} (hq : FlagsExcept w.flags s.p q) : Frame w s (s.setP q) := { flags := hq }
theorem setA_setP (hw : w.a = true) (v : Byte) {q : Status} (hq : FlagsExcept w.flags s.p q) :
    Frame w s ((s.setA v).setP q) := (setA hw v).trans (setP hq)
theorem setX_setP (hw : w.x = true) (v : Byte) {q : Status} (hq : FlagsExcept w.flags s.p q) :
    Frame w s ((s.setX v).setP q) := (setX hw v).trans (setP hq)
theorem setY_setP (hw : w.y = true) (v : Byte) {q : Status} (hq : FlagsExcept w.flags s.p q) :
    Frame w s ((s.setY v).setP q) := (setY hw v).trans (setP hq)
theorem setCycles (hw : w.cycles = true) (n : Nat) : Frame w s (s.setCycles n) := { cycles := by simp [hw] }
theorem setNmi (hw : w.nmi = true) (v : Bool) : Frame w s (s.setNmi v) := { nmi := by simp [hw] }
theorem logged (e : Event) : Frame w s (s.logged e) := {}

theorem setRam {m : Memory} (hm : s.ram.wfBelow ramSize = true → m.wfBelow ramSize = true) :
    Frame w s (s.setRam m) := { ram := hm }

theorem ofOnlyLogs (h : OnlyLogs s t) : Frame w s t := by
  obtain ⟨events, rfl⟩ := h
  exact {}

theorem ofOnlyFetches (h : OnlyFetches s t) (hw : w.pc = true) : Frame w s t := by
  obtain ⟨events, pc, rfl⟩ := h
  exact { pc := by simp [hw] }

end Frame

/-- A bus address in RAM decodes to an offset within it (20_memory.md R42, R43). -/
theorem busTarget_ram_lt {addr : Word} {off : Nat} (h : busTarget addr = .ram off) : off < ramSize := by
  unfold busTarget at h
  split at h
  · cases h
    have := Nat.and_le_right (n := addr.toNat) (m := 0x07FF)
    simp [ramSize]; omega
  · repeat' split at h
    all_goals cases h

namespace Frame

variable {w : Footprint} {s t u : State}

theorem write8 (addr : Word) (v : Byte) (s : State) : Frame w s (Machine.write8 addr v s) := by
  rcases write8_cases addr v s with ⟨off, hoff, h⟩ | ⟨-, e, h⟩ <;> rw [h]
  · exact (setRam fun hm => Memory.wfBelow_set v hm (busTarget_ram_lt hoff)).trans (logged _)
  · exact logged e

theorem push (hw : w.sp = true) (v : Byte) (s : State) : Frame w s (Machine.push v s) :=
  (write8 _ v s).trans (setSp hw _)

theorem push16 (hw : w.sp = true) (v : Word) (s : State) : Frame w s (Machine.push16 v s) :=
  (push hw _ s).trans (push hw _ _)

theorem pull (hw : w.sp = true) {v : Byte} (h : Machine.pull s = .ok v t) : Frame w s t :=
  (setSp hw _).trans (ofOnlyLogs (read8_onlyLogs h))

theorem pull16 (hw : w.sp = true) {v : Word} (h : Machine.pull16 s = .ok v t) : Frame w s t := by
  obtain ⟨lo, s1, h1, hk⟩ := Ran.andThen_eq_ok h
  obtain ⟨hi, s2, h2, he⟩ := Ran.andThen_eq_ok hk
  cases he
  exact (pull hw h1).trans (pull hw h2)

/-! The shapes of an instruction and the traps. -/

theorem next (h : (Host.Outcome.next u : Host.Outcome State Fault Refusal) = .next t) (hu : Frame w s u) :
    Frame w s t := by cases h; exact hu

theorem withOperand {o : Operand} {k : Byte → State → State} (h : Machine.withOperand o k s = .next t)
    (hk : ∀ m s, Frame w s (k m s)) : Frame w s t := by
  obtain ⟨m, s1, -, hl, rfl⟩ := withOperand_eq_next h
  exact (ofOnlyLogs hl).trans (hk m s1)

theorem storeByte {m : MemMode} {v : Byte} (h : Machine.storeByte m v s = .next t) : Frame w s t := by
  obtain ⟨ea, s1, s2, -, hl, rfl⟩ := storeByte_eq_next h
  exact (ofOnlyLogs hl).trans (write8 ea v s2)

theorem modifyMemory {op : ByteOp} {m : MemMode} (h : Machine.modifyMemory op m s = .next t)
    (hop : ∀ v p, FlagsExcept w.flags p (op v p).2) : Frame w s t := by
  obtain ⟨ea, s1, v, s2, -, -, hl, rfl⟩ := modifyMemory_eq_next h
  exact (ofOnlyLogs hl).trans ((setP (hop v _)).trans (write8 _ _ _))

theorem branchIf {cond : Bool} {d : Int} (h : Machine.branchIf cond d s = .next t) (hw : w.pc = true) :
    Frame w s t := by
  cases cond
  · exact next h (refl w s)
  · exact next h (setPc hw _)

theorem enterTrap {ret : Word} {status : Byte} {vector : Word}
    (h : Machine.enterTrap ret status vector s = .ok () t) (hsp : w.sp = true) (hpc : w.pc = true)
    (hi : .I ∈ w.flags) : Frame w s t := by
  obtain ⟨target, s2, hl, rfl⟩ := enterTrap_eq_ok h
  have hp : FlagsExcept w.flags s.p { s.p with i := true } :=
    (setI_flags s.p true).mono (by simpa using hi)
  exact (((push16 hsp ret s).trans (push hsp status _)).trans (setP (by simpa using hp))).trans
    ((ofOnlyLogs hl).trans (setPc hpc target))

theorem returnFromTrap {v : Unit} (h : Machine.returnFromTrap s = .ok v t) (hsp : w.sp = true)
    (hpc : w.pc = true) (hf : [.N, .V, .D, .I, .Z, .C] ⊆ w.flags) : Frame w s t := by
  obtain ⟨b, s1, h1, hk⟩ := Ran.andThen_eq_ok h
  obtain ⟨target, s2, h2, he⟩ := Ran.andThen_eq_ok hk
  cases he
  exact (pull hsp h1).trans ((setP ((pulled_flags _ b).mono hf)).trans
    ((pull16 hsp h2).trans (setPc hpc target)))

end Frame

/-- An instruction that completes has written within its footprint. An immediate operand makes no bus read,
so an immediate form completes at once, as the register instructions do. -/
theorem exec_frame {i : Instr} {s t : State} (h : exec i s = .next t) : Frame (footprint i) s t := by
  cases i
  case adcIzx | adcZp | adcAbs | adcIzy | adcZpx | adcAby | adcAbx | sbcIzx | sbcZp | sbcAbs | sbcIzy
      | sbcZpx | sbcAby | sbcAbx =>
    exact .withOperand h fun m s => .setA_setP rfl _ (afterSum_flags _ _)
  case adcImm | sbcImm => exact .next h (.setA_setP rfl _ (afterSum_flags _ _))
  case andIzx | andZp | andAbs | andIzy | andZpx | andAby | andAbx | oraIzx | oraZp | oraAbs | oraIzy
      | oraZpx | oraAby | oraAbx | eorIzx | eorZp | eorAbs | eorIzy | eorZpx | eorAby | eorAbx | ldaIzx
      | ldaZp | ldaAbs | ldaIzy | ldaZpx | ldaAby | ldaAbx =>
    exact .withOperand h fun m s => .setA_setP rfl _ (setNZ_flags _ _)
  case andImm | oraImm | eorImm | ldaImm | txa | tya => exact .next h (.setA_setP rfl _ (setNZ_flags _ _))
  case ldxZp | ldxAbs | ldxZpy | ldxAby =>
    exact .withOperand h fun m s => .setX_setP rfl _ (setNZ_flags _ _)
  case ldxImm | tax | tsx | inx | dex => exact .next h (.setX_setP rfl _ (setNZ_flags _ _))
  case ldyZp | ldyAbs | ldyZpx | ldyAbx =>
    exact .withOperand h fun m s => .setY_setP rfl _ (setNZ_flags _ _)
  case ldyImm | tay | iny | dey => exact .next h (.setY_setP rfl _ (setNZ_flags _ _))
  case bitZp | bitAbs => exact .withOperand h fun m s => .setP (afterBit_flags _ _ _)
  case cmpIzx | cmpZp | cmpAbs | cmpIzy | cmpZpx | cmpAby | cmpAbx | cpxZp | cpxAbs | cpyZp | cpyAbs =>
    exact .withOperand h fun m s => .setP (afterCompare_flags _ _ _)
  case cmpImm | cpxImm | cpyImm => exact .next h (.setP (afterCompare_flags _ _ _))
  case staIzx | staZp | staAbs | staIzy | staZpx | staAby | staAbx | stxZp | stxAbs | stxZpy | styZp
      | styAbs | styZpx =>
    exact .storeByte h
  case incZp | incAbs | incZpx | incAbx | decZp | decAbs | decZpx | decAbx =>
    exact .modifyMemory h fun v p => setNZ_flags p _
  case aslZp | aslAbs | aslZpx | aslAbx | lsrZp | lsrAbs | lsrZpx | lsrAbx | rolZp | rolAbs | rolZpx
      | rolAbx | rorZp | rorAbs | rorZpx | rorAbx =>
    exact .modifyMemory h fun v p => setC_setNZ_flags p _ _
  case aslAcc | lsrAcc | rolAcc | rorAcc =>
    exact .next h ((Frame.setP (setC_setNZ_flags _ _ _)).trans (.setA rfl _))
  case txs => exact .next h (.setSp rfl _)
  case bcc | bcs | beq | bmi | bne | bpl | bvc | bvs => exact .branchIf h rfl
  case clc | sec => exact .next h (.setP (setC_flags _ _))
  case cli | sei => exact .next h (.setP (setI_flags _ _))
  case cld | sed => exact .next h (.setP (setD_flags _ _))
  case clv => exact .next h (.setP (setV_flags _ _))
  case nop => exact .next h (.refl _ _)
  case pha | php => exact .next h (.push rfl _ _)
  case pla =>
    obtain ⟨v, s1, h1, rfl⟩ := Ran.finish_eq_next h
    exact (Frame.pull rfl h1).trans (.setA_setP rfl v (setNZ_flags _ v))
  case plp =>
    obtain ⟨v, s1, h1, rfl⟩ := Ran.finish_eq_next h
    exact (Frame.pull rfl h1).trans (.setP (pulled_flags _ v))
  case jmpAbs => exact .next h (.setPc rfl _)
  case jmpInd addr =>
    obtain ⟨target, s1, h1, rfl⟩ := Ran.finish_eq_next h
    exact (Frame.ofOnlyLogs ((OnlyReads.resolveIndirect addr s).1 _ _ h1)).trans (.setPc rfl target)
  case jsr => exact .next h ((Frame.push16 rfl _ _).trans (.setPc rfl _))
  case rts =>
    obtain ⟨w, s1, h1, rfl⟩ := Ran.finish_eq_next h
    exact (Frame.pull16 rfl h1).trans (.setPc rfl _)
  case brk =>
    obtain ⟨_, s1, h1, rfl⟩ := Ran.finish_eq_next h
    exact .enterTrap h1 rfl rfl (List.mem_singleton.mpr rfl)
  case rti =>
    obtain ⟨_, s1, h1, rfl⟩ := Ran.finish_eq_next h
    exact .returnFromTrap h1 rfl rfl (List.Subset.refl _)

/-- No row of the summary of 10_state.md R29 lists Break or the unused bit. -/
theorem flagsWritten_subset_step (m : Mnemonic) : flagsWritten m ⊆ stepFootprint.flags := by
  cases m <;> decide

theorem interruptSequence_frame {s t : State} (h : interruptSequence s = .next t) :
    Frame stepFootprint s t := by
  obtain ⟨_, s1, h1, rfl⟩ := Ran.finish_eq_next h
  exact (Frame.setNmi rfl false).trans ((Frame.enterTrap h1 rfl rfl (by decide)).trans (.setCycles rfl _))

/-- A step that answers next keeps the stored bits 4 and 5, the cartridge, the parameters, the fault and the
IRQ level, whatever else it writes, and only adds to the log. -/
theorem step_frame {s t : State} (h : step s = .next t) : Frame stepFootprint s t := by
  obtain ⟨-, ⟨-, hint⟩ | ⟨-, i, s1, u, -, hfetch, hexec, rfl⟩⟩ := step_eq_next h
  · exact interruptSequence_frame hint
  · exact (Frame.ofOnlyFetches hfetch rfl).trans
      (((exec_frame hexec).inStep (flagsWritten_subset_step _)).trans (.setCycles rfl _))

theorem step_keeps_b {s t : State} (h : step s = .next t) : t.p.b = s.p.b :=
  ((step_frame h).flags .B).resolve_left (by decide)

theorem step_keeps_u {s t : State} (h : step s = .next t) : t.p.u = s.p.u :=
  ((step_frame h).flags .U).resolve_left (by decide)

theorem inv_iff (s : State) :
    s.inv = true ↔ s.ram.wfBelow ramSize = true ∧ s.cart.wf = true ∧ s.p.b = false ∧ s.p.u = false ∧
      s.fault = none := by
  simp [State.inv, and_assoc]

/-! ### The obligations -/

/-- Settles O54: the frame of a step carries each clause of the invariant over. -/
theorem stepKeepsInvariant : Obligations.StepKeepsInvariant := by
  intro s t hs h
  have frame := step_frame h
  obtain ⟨hram, hcart, hb, hu, hfault⟩ := (inv_iff s).mp hs
  refine (inv_iff t).mpr ⟨frame.ram hram, ?_, ?_, ?_, ?_⟩
  · rw [frame.cart, hcart]
  · rw [step_keeps_b h, hb]
  · rw [step_keeps_u h, hu]
  · rw [frame.fault, hfault]

/-- Settles O43, from the flags of the instruction's footprint. -/
theorem flagFrame : Obligations.FlagFrame := fun _ _ _ f h hf =>
  ((exec_frame h).flags f).resolve_left hf

/-- Settles O44, from the registers of the instruction's footprint. -/
theorem registerFrame : Obligations.RegisterFrame := fun _ _ _ h =>
  have frame := exec_frame h
  ⟨frame.a, frame.x, frame.y, frame.sp, frame.pc⟩

/-- Settles O45: these fields are in no instruction's footprint. -/
theorem cartridgeAndInputsFrame : Obligations.CartridgeAndInputsFrame := fun _ _ _ h =>
  have frame := exec_frame h
  ⟨frame.cart, frame.params, frame.fault, frame.cycles rfl, frame.nmi rfl, frame.irq⟩

/-- Settles O48: every update's frame has the old log as a suffix of the new one. -/
theorem logIsAppendOnly : Obligations.LogIsAppendOnly := fun _ _ h =>
  (step_frame h).log.imp fun _ => Eq.symm

end Sys2Proof.Machine
end

section
/-! PROOF. What cannot be observed: the stored bits 3, 4 and 5 of P (10_state.md R26, R27). -/

namespace Sys2Proof.Machine

open Sys2Proof.Spec

/-! ### Machines alike but for the storage-only flags

D, B and U are the flags no instruction computes with. `withStored d b u` puts any function of its old
value in place of each; every phase of a step then does the same with the changed machine. -/

def Status.withStored (d b u : Bool → Bool) (p : Status) : Status :=
  { p with d := d p.d, b := b p.b, u := u p.u }

def State.withStored (d b u : Bool → Bool) (s : State) : State := s.setP (s.p.withStored d b u)

/-- The result of a phase with its state changed. -/
def Ran.mapState {α : Type} (φ : State → State) : Ran α → Ran α
  | .ok v s => .ok v (φ s)
  | .stop c s => .stop c (φ s)

theorem withDecimal_eq (d : Bool) (s : State) : withDecimal d s = s.withStored (fun _ => d) id id := rfl

theorem withBreakBits_eq (b u : Bool) (s : State) :
    withBreakBits b u s = s.withStored id (fun _ => b) (fun _ => u) := rfl

theorem Ran.andThen_mapState {α β : Type} {φ : State → State} {r r' : Ran α} {k : α → State → Ran β}
    (hr : r' = r.mapState φ) (hk : ∀ v s, k v (φ s) = (k v s).mapState φ) :
    r'.andThen k = (r.andThen k).mapState φ := by
  subst hr
  cases r with
  | ok v s => exact hk v s
  | stop c s => rfl

theorem Ran.finish_mapState {α : Type} {φ : State → State} {r r' : Ran α} {k : α → State → State}
    {t : State} (h : r.finish k = .next t) (hr : r' = r.mapState φ) (hk : ∀ v s, k v (φ s) = φ (k v s)) :
    r'.finish k = .next (φ t) := by
  obtain ⟨v, s, rfl, rfl⟩ := Ran.finish_eq_next h
  subst hr
  exact congrArg _ (hk v s)

section
variable (d b u : Bool → Bool) (s : State)

/-! One equation per shared operation. -/

theorem read8_withStored (addr : Word) :
    read8 addr (s.withStored d b u) = (read8 addr s).mapState (·.withStored d b u) := by
  have hbus : (s.withStored d b u).busRead addr = s.busRead addr := rfl
  cases hv : s.busRead addr with
  | some v => rw [read8_of_some hv, read8_of_some (hbus.trans hv)]; rfl
  | none => rw [read8_of_none hv, read8_of_none (hbus.trans hv)]; rfl

theorem write8_withStored (addr : Word) (v : Byte) :
    write8 addr v (s.withStored d b u) = (write8 addr v s).withStored d b u := by
  unfold write8
  split
  case h_2 r _ =>
    change (if s.params.ioReadOnly.contains r then _ else _) = _
    split <;> rfl
  all_goals rfl

theorem push_withStored (v : Byte) : push v (s.withStored d b u) = (push v s).withStored d b u :=
  congrArg (State.setSp · (s.sp - 1)) (write8_withStored d b u s (stackAddr s.sp) v)

theorem push16_withStored (w : Word) : push16 w (s.withStored d b u) = (push16 w s).withStored d b u := by
  rw [push16, push_withStored, push_withStored, push16]

theorem pull_withStored : pull (s.withStored d b u) = (pull s).mapState (·.withStored d b u) :=
  read8_withStored d b u (s.setSp (s.sp + 1)) (stackAddr (s.sp + 1))

theorem readPair_withStored (lo hi : Word) :
    readPair lo hi (s.withStored d b u) = (readPair lo hi s).mapState (·.withStored d b u) :=
  Ran.andThen_mapState (read8_withStored d b u s lo) fun _ s1 =>
    Ran.andThen_mapState (read8_withStored d b u s1 hi) fun _ _ => rfl

theorem pull16_withStored : pull16 (s.withStored d b u) = (pull16 s).mapState (·.withStored d b u) :=
  Ran.andThen_mapState (pull_withStored d b u s) fun _ s1 =>
    Ran.andThen_mapState (pull_withStored d b u s1) fun _ _ => rfl

theorem resolve_withStored (m : MemMode) :
    resolve m (s.withStored d b u) = (resolve m s).mapState (·.withStored d b u) := by
  cases m
  case indexedIndirect => exact readPair_withStored d b u s _ _
  case indirectIndexed => exact Ran.andThen_mapState (readPair_withStored d b u s _ _) fun _ _ => rfl
  all_goals rfl

theorem readTarget_withStored (m : MemMode) :
    readTarget m (s.withStored d b u) = (readTarget m s).mapState (·.withStored d b u) :=
  Ran.andThen_mapState (resolve_withStored d b u s m) fun ea s1 =>
    Ran.andThen_mapState (read8_withStored d b u s1 ea) fun _ _ => rfl

theorem operandRead_withStored (o : Operand) :
    operandRead o (s.withStored d b u) = (operandRead o s).mapState (·.withStored d b u) := by
  cases o with
  | immediate _ => rfl
  | memory m => exact Ran.andThen_mapState (readTarget_withStored d b u s m) fun _ _ => rfl

theorem enterTrap_withStored (ret : Word) (status : Byte) (vector : Word) :
    enterTrap ret status vector (s.withStored d b u) =
      (enterTrap ret status vector s).mapState (·.withStored d b u) := by
  simp only [enterTrap, push16_withStored, push_withStored]
  let s1 := push status (push16 ret s)
  exact Ran.andThen_mapState (readPair_withStored d b u (s1.setP { s1.p with i := true }) vector _)
    fun _ _ => rfl

/-- A pulled status byte replaces D, so D must be kept here. -/
theorem returnFromTrap_withBreak :
    returnFromTrap (s.withStored id b u) = (returnFromTrap s).mapState (·.withStored id b u) :=
  Ran.andThen_mapState (pull_withStored id b u s) fun w s1 =>
    Ran.andThen_mapState (pull16_withStored id b u (s1.setP (s1.p.pulled w))) fun _ _ => rfl

theorem fetchByte_withStored :
    fetchByte (s.withStored d b u) = (fetchByte s).mapState (·.withStored d b u) :=
  Ran.andThen_mapState (read8_withStored d b u s s.pc) fun _ _ => rfl

theorem fetchInstr_withStored :
    fetchInstr (s.withStored d b u) = (fetchInstr s).mapState (·.withStored d b u) := by
  refine Ran.andThen_mapState (fetchByte_withStored d b u s) fun op s1 => ?_
  cases decodeOpcode op with
  | none => rfl
  | some form =>
    cases form with
    | complete i => rfl
    | byte f => exact Ran.andThen_mapState (fetchByte_withStored d b u s1) fun _ _ => rfl
    | displacement f => exact Ran.andThen_mapState (fetchByte_withStored d b u s1) fun _ _ => rfl
    | address f =>
      exact Ran.andThen_mapState (fetchByte_withStored d b u s1) fun _ s2 =>
        Ran.andThen_mapState (fetchByte_withStored d b u s2) fun _ _ => rfl

theorem branchIf_withStored (cond : Bool) (disp : Int) {t : State} (h : branchIf cond disp s = .next t) :
    branchIf cond disp (s.withStored d b u) = .next (t.withStored d b u) := by
  cases cond <;> cases h <;> rfl

variable {d b u s}

theorem withOperand_withStored {o : Operand} {k : Byte → State → State} {t : State}
    (h : withOperand o k s = .next t) (hk : ∀ v s, k v (s.withStored d b u) = (k v s).withStored d b u) :
    withOperand o k (s.withStored d b u) = .next (t.withStored d b u) :=
  Ran.finish_mapState h (operandRead_withStored d b u s o) hk

theorem storeByte_withStored {m : MemMode} {v : Byte} {t : State} (h : storeByte m v s = .next t) :
    storeByte m v (s.withStored d b u) = .next (t.withStored d b u) := by
  refine Ran.finish_mapState h ?_ fun ea s1 => write8_withStored d b u s1 ea v
  refine Ran.andThen_mapState (resolve_withStored d b u s m) fun ea s1 => ?_
  change (if s1.params.storeReads then _ else _) = _
  split
  · exact Ran.andThen_mapState (read8_withStored d b u s1 ea) fun _ _ => rfl
  · rfl

theorem modifyMemory_withStored {op : ByteOp} {m : MemMode} {t : State} (h : modifyMemory op m s = .next t)
    (hop : ∀ v p, op v (p.withStored d b u) = ((op v p).1, (op v p).2.withStored d b u)) :
    modifyMemory op m (s.withStored d b u) = .next (t.withStored d b u) := by
  refine Ran.finish_mapState h (readTarget_withStored d b u s m) fun v s1 => ?_
  have hp : op v.2 (s1.withStored d b u).p = _ := hop v.2 s1.p
  simp only [hp]
  exact write8_withStored d b u (s1.setP (op v.2 s1.p).2) v.1 _

end

/-! ### The pushed status bytes -/

/-- What holds for every choice of the eight flags holds of every status register. -/
theorem Status.forall_of_flags {P : Status → Prop} (h : ∀ c z i d b u v n, P ⟨c, z, i, d, b, u, v, n⟩) :
    ∀ p, P p := fun p => h p.c p.z p.i p.d p.b p.u p.v p.n

/-- PHP and BRK push P with bits 4 and 5 set (46_stack.md R182). -/
theorem pushedByBrk_eq : ∀ p : Status, p.pushedByBrk = { p with b := true, u := true }.toByte :=
  Status.forall_of_flags (by decide)

/-- An interrupt pushes P with bit 4 clear and bit 5 set (60_exceptions.md R215). -/
theorem pushedByInterrupt_eq : ∀ p : Status,
    p.pushedByInterrupt = { p with b := false, u := true }.toByte :=
  Status.forall_of_flags (by decide)

theorem pushedByBrk_withBreak (b u : Bool → Bool) (p : Status) :
    (p.withStored id b u).pushedByBrk = p.pushedByBrk := by
  rw [pushedByBrk_eq, pushedByBrk_eq]; rfl

theorem pushedByInterrupt_withBreak (b u : Bool → Bool) (p : Status) :
    (p.withStored id b u).pushedByInterrupt = p.pushedByInterrupt := by
  rw [pushedByInterrupt_eq, pushedByInterrupt_eq]; rfl

/-! ### Instructions and steps -/

/-- The instructions that write D or push it. -/
def decimalUsers : List Mnemonic := [.PHP, .BRK, .SED, .CLD, .PLP, .RTI]

/-- An instruction that completes does the same with other storage-only flags; with another D, only if
it neither writes nor pushes it. -/
theorem exec_withStored {i : Instr} {s t : State} {d : Bool → Bool} (b u : Bool → Bool)
    (hd : i.mnemonic ∈ decimalUsers → d = id) (h : exec i s = .next t) :
    exec i (s.withStored d b u) = .next (t.withStored d b u) := by
  cases i
  case sed | cld => cases hd (by decide); cases h; rfl
  case php =>
    cases hd (by decide)
    cases h
    exact congrArg _
      ((congrArg (push · _) (pushedByBrk_withBreak b u s.p)).trans (push_withStored id b u s _))
  case plp =>
    cases hd (by decide)
    exact Ran.finish_mapState h (pull_withStored id b u s) fun _ _ => rfl
  case brk =>
    cases hd (by decide)
    exact Ran.finish_mapState h ((congrArg (enterTrap _ · _ _) (pushedByBrk_withBreak b u s.p)).trans
      (enterTrap_withStored id b u s _ _ _)) fun _ _ => rfl
  case rti =>
    cases hd (by decide)
    exact Ran.finish_mapState h (returnFromTrap_withBreak b u s) fun _ _ => rfl
  case pla => exact Ran.finish_mapState h (pull_withStored d b u s) fun _ _ => rfl
  case rts => exact Ran.finish_mapState h (pull16_withStored d b u s) fun _ _ => rfl
  case jmpInd => exact Ran.finish_mapState h (readPair_withStored d b u s _ _) fun _ _ => rfl
  case pha => cases h; exact congrArg _ (push_withStored d b u s _)
  case jsr addr =>
    cases h
    exact congrArg (fun s1 => Host.Outcome.next (State.setPc s1 addr)) (push16_withStored d b u s (s.pc - 1))
  case bcc | bcs | beq | bmi | bne | bpl | bvc | bvs => exact branchIf_withStored d b u s _ _ h
  case staIzx | staZp | staAbs | staIzy | staZpx | staAby | staAbx | stxZp | stxAbs | stxZpy | styZp
      | styAbs | styZpx =>
    exact storeByte_withStored h
  case incZp | incAbs | incZpx | incAbx | decZp | decAbs | decZpx | decAbx | aslZp | aslAbs | aslZpx
      | aslAbx | lsrZp | lsrAbs | lsrZpx | lsrAbx | rolZp | rolAbs | rolZpx | rolAbx | rorZp | rorAbs
      | rorZpx | rorAbx =>
    exact modifyMemory_withStored h fun _ _ => rfl
  case inx | iny | dex | dey | aslAcc | lsrAcc | rolAcc | rorAcc | tax | tay | txa | tya | tsx | txs
      | jmpAbs | clc | sec | cli | sei | clv | nop | adcImm | sbcImm | andImm | oraImm | eorImm | cmpImm
      | cpxImm | cpyImm | ldaImm | ldxImm | ldyImm =>
    cases h; rfl
  all_goals exact withOperand_withStored h fun _ _ => rfl

theorem interruptSequence_withBreak {s t : State} (b u : Bool → Bool) (h : interruptSequence s = .next t) :
    interruptSequence (s.withStored id b u) = .next (t.withStored id b u) :=
  Ran.finish_mapState h
    ((congrArg (enterTrap _ · _ _) (pushedByInterrupt_withBreak b u s.p)).trans
      (enterTrap_withStored id b u (s.setNmi false) _ _ _)) fun _ _ => rfl

theorem step_of_interruptDue {s : State} (hf : s.fault = none) (hd : s.interruptDue = true) :
    step s = interruptSequence s := by simp [step, runStep, hf, hd]

theorem step_of_not_interruptDue {s : State} (hf : s.fault = none) (hd : s.interruptDue = false) :
    step s = runInstr exec s := by simp [step, runStep, hf, hd]

theorem step_withBreak {s t : State} (b u : Bool → Bool) (h : step s = .next t) :
    step (s.withStored id b u) = .next (t.withStored id b u) := by
  obtain ⟨hf, ⟨hd, hint⟩ | ⟨hd, i, s1, t1, hfetch, -, hexec, rfl⟩⟩ := step_eq_next h
  · exact (step_of_interruptDue (s := s.withStored id b u) hf hd).trans (interruptSequence_withBreak b u hint)
  · rw [step_of_not_interruptDue (s := s.withStored id b u) hf hd, runInstr, fetchInstr_withStored, hfetch]
    exact congrArg (returnCycles i.cycles) (exec_withStored b u (fun _ => rfl) hexec)

/-! ### The obligations -/

/-- Settles O49: D is a storage-only flag, and no other instruction than the six writes or pushes it. -/
theorem decimalFlagIsStorageOnly : Obligations.DecimalFlagIsStorageOnly := by
  intro i s t d hi h
  rw [withDecimal_eq, withDecimal_eq]
  exact exec_withStored id id (absurd · hi) h

/-- Settles O50, from the frame of a step and its commuting with any change of the two bits. -/
theorem breakBitsAreUnobservable : Obligations.BreakBitsAreUnobservable := by
  intro s t b u h
  rw [withBreakBits_eq, withBreakBits_eq]
  exact ⟨step_keeps_b h, step_keeps_u h, step_withBreak (fun _ => b) (fun _ => u) h⟩

end Sys2Proof.Machine
end

section
/-! PROOF. The stopped machine, the status byte, and the values at construction (10_state.md R22, R33, R38). -/

namespace Sys2Proof.Machine

/-- Settles O10: the held fault is the first thing a step looks at. -/
theorem faultedMachineTakesNoStep : Obligations.FaultedMachineTakesNoStep := by
  intro s c hs
  simp only [step, runStep, hs]

theorem Status.toByte_toNat : ∀ p : Status, p.toByte.toNat =
    p.n.toNat * 128 + p.v.toNat * 64 + p.u.toNat * 32 + p.b.toNat * 16 + p.d.toNat * 8 + p.i.toNat * 4 +
      p.z.toNat * 2 + p.c.toNat :=
  Status.forall_of_flags (by decide)

theorem Status.ofByte_toByte : ∀ p : Status, Status.ofByte p.toByte = p :=
  Status.forall_of_flags (by decide)

theorem Status.toByte_ofByte (w : Byte) : (Status.ofByte w).toByte = w := by
  revert w
  decide

/-- Settles O22: both finite inverses and the weights of the bits. -/
theorem statusByteLayout : Obligations.StatusByteLayout :=
  ⟨Status.toByte_toNat, Status.ofByte_toByte, Status.toByte_ofByte⟩

/-- Settles O55: two empty banks and an empty RAM are canonical, and P is zero. -/
theorem resetMeetsInvariant : Obligations.ResetMeetsInvariant :=
  (inv_iff _).mpr ⟨rfl, by decide, rfl, rfl, rfl⟩

theorem reset_toByte : State.reset.p.toByte = 0 := by decide

/-- Settles O56: construction replaces only the cartridge, the RAM and the parameters of the reset state. -/
theorem constructionValues : Obligations.ConstructionValues := fun _ _ _ =>
  ⟨rfl, rfl, rfl, rfl, reset_toByte, rfl, rfl, rfl, rfl, rfl, rfl, rfl⟩

end Sys2Proof.Machine
end

section
/-! PROOF. The address decode and what one bus access does behind each target (20_memory.md R42 to R51). -/

namespace Sys2Proof.Machine

open Sys2Proof.Spec

/-! ### The address decode, one lemma per range (20_memory.md R42) -/

/-- Masking to the low `n` bits is the remainder modulo `2 ^ n`. -/
theorem toNat_and_lowMask (addr : Word) {n : Nat} (hn : n ≤ 16) :
    (addr &&& BitVec.ofNat 16 (2 ^ n - 1)).toNat = addr.toNat % 2 ^ n := by
  have hpow : 2 ^ n ≤ 2 ^ 16 := Nat.pow_le_pow_right (by decide) hn
  rw [BitVec.toNat_and, BitVec.toNat_ofNat, Nat.mod_eq_of_lt (by omega), Nat.and_two_pow_sub_one_eq_mod]

section
variable {addr : Word}

theorem busTarget_workRam (h : addr.toNat < 0x2000) : busTarget addr = .ram (addr.toNat % 0x800) := by
  rw [busTarget, if_pos h]
  exact congrArg BusTarget.ram (toNat_and_lowMask addr (n := 11) (by decide))

theorem busTarget_ioWindow (h : 0x2000 ≤ addr.toNat) (h' : addr.toNat < 0x4000) :
    busTarget addr = .io (BitVec.ofNat 3 (addr.toNat % 8)) := by
  have hreg : (addr &&& 0x0007).setWidth 3 = BitVec.ofNat 3 (addr.toNat % 8) := by
    have hmask : (addr &&& 0x0007).toNat = addr.toNat % 8 := toNat_and_lowMask addr (n := 3) (by decide)
    exact BitVec.eq_of_toNat_eq (by rw [BitVec.toNat_setWidth, hmask, BitVec.toNat_ofNat])
  rw [busTarget, if_neg (by omega), if_pos h', hreg]

theorem busTarget_apuStub (h : 0x4000 ≤ addr.toNat) (h' : addr.toNat < 0x4020) :
    busTarget addr = .apuStub := by
  rw [busTarget, if_neg (by omega), if_neg (by omega), if_pos h']

theorem busTarget_expStub (h : 0x4020 ≤ addr.toNat) (h' : addr.toNat < 0x6000) :
    busTarget addr = .expStub := by
  rw [busTarget, if_neg (by omega), if_neg (by omega), if_neg (by omega), if_pos h']

theorem busTarget_battStub (h : 0x6000 ≤ addr.toNat) (h' : addr.toNat < 0x8000) :
    busTarget addr = .battStub := by
  rw [busTarget, if_neg (by omega), if_neg (by omega), if_neg (by omega), if_neg (by omega), if_pos h']

theorem busTarget_prgRom (h : 0x8000 ≤ addr.toNat) :
    busTarget addr = .prg (if addr.toNat < 0xC000 then 0 else 1) (addr.toNat % 0x4000) := by
  have hoff : (addr &&& 0x3FFF).toNat = addr.toNat % 0x4000 := toNat_and_lowMask addr (n := 14) (by decide)
  rw [busTarget, if_neg (by omega), if_neg (by omega), if_neg (by omega), if_neg (by omega),
    if_neg (by omega), hoff]
  split <;> rfl

end

/-! ### One access, by its target -/

section
variable {addr : Word} (s : State) (v : Byte)

theorem read8_ram {off : Nat} (h : busTarget addr = .ram off) :
    read8 addr s = .ok (s.ram.get off) (s.logged (.read addr (s.ram.get off))) := by
  simp [read8, State.busRead, readEvent, h]

theorem read8_io {r : IoReg} (h : busTarget addr = .io r) :
    read8 addr s = .ok (Config.ioRead r s.log) (s.logged (.ioRead r (Config.ioRead r s.log))) := by
  simp [read8, State.busRead, readEvent, h]

theorem read8_apuStub (h : busTarget addr = .apuStub) :
    read8 addr s = .ok 0x00 (s.logged (.read addr 0x00)) := by
  simp [read8, State.busRead, readEvent, h]

theorem read8_expStub (h : busTarget addr = .expStub) :
    read8 addr s = .ok s.params.stubRead (s.logged (.read addr s.params.stubRead)) := by
  simp [read8, State.busRead, readEvent, h]

theorem read8_battStub (h : busTarget addr = .battStub) :
    read8 addr s = .ok s.params.stubRead (s.logged (.read addr s.params.stubRead)) := by
  simp [read8, State.busRead, readEvent, h]

theorem read8_prg {slot off : Nat} {bank : Memory} (h : busTarget addr = .prg slot off)
    (hb : s.mappedBank slot = some bank) :
    read8 addr s = .ok (bank.get off) (s.logged (.read addr (bank.get off))) := by
  simp [read8, State.busRead, readEvent, h, hb]

theorem read8_prg_of_none {slot off : Nat} (h : busTarget addr = .prg slot off)
    (hb : s.mappedBank slot = none) : read8 addr s = .stop (.missingPrgBank addr) s := by
  simp [read8, State.busRead, h, hb]

theorem write8_ram {off : Nat} (h : busTarget addr = .ram off) :
    write8 addr v s = (s.setRam (s.ram.set off v)).logged (.write addr v) := by
  simp [write8, h]

theorem write8_io {r : IoReg} (h : busTarget addr = .io r) :
    write8 addr v s = s.logged
      (if r ∈ s.params.ioReadOnly then .droppedWrite addr v .readOnlyIo else .ioWrite r v) := by
  by_cases hr : r ∈ s.params.ioReadOnly <;> simp [write8, h, hr]

theorem write8_stub (h : busTarget addr = .apuStub ∨ busTarget addr = .expStub ∨ busTarget addr = .battStub) :
    write8 addr v s = s.logged (.droppedWrite addr v .stubWrite) := by
  rcases h with h | h | h <;> simp [write8, h]

theorem write8_prg {slot off : Nat} (h : busTarget addr = .prg slot off) :
    write8 addr v s = s.logged (.droppedWrite addr v .romWrite) := by
  simp [write8, h]

end

/-! ### The banks behind the two program-ROM windows (20_memory.md R44, R45) -/

section
variable {s : State}

theorem mappedBank_one_of_some {bank : Memory} (h : s.cart.prg[1]? = some bank) :
    s.mappedBank 1 = some bank := by
  simp [State.mappedBank, h]

theorem mappedBank_one_of_single {bank : Memory} (h : s.cart.prg = [bank]) :
    s.mappedBank 1 = if s.params.prgMirrorSingle then some bank else none := by
  simp [State.mappedBank, h]

theorem mappedBank_of_nil (h : s.cart.prg = []) (slot : Nat) : s.mappedBank slot = none := by
  cases slot <;> simp [State.mappedBank, h]

/-- The banks behind the slots depend on the cartridge and the parameters only. -/
theorem mappedBank_congr {t : State} (hc : t.cart = s.cart) (hp : t.params = s.params) (slot : Nat) :
    t.mappedBank slot = s.mappedBank slot := by
  unfold State.mappedBank
  rw [hc, hp]

/-- Every slot but 0 shows what slot 1 shows, so with both windows backed no slot is without a bank. -/
theorem mappedBank_ne_none_of_romBacked (h : s.romBacked = true) (slot : Nat) : s.mappedBank slot ≠ none := by
  obtain ⟨h0, h1⟩ : (s.mappedBank 0).isSome = true ∧ (s.mappedBank 1).isSome = true := by
    simpa [State.romBacked] using h
  cases slot with
  | zero => exact Option.isSome_iff_ne_none.mp h0
  | succ n => exact (Option.isSome_iff_ne_none.mp h1 : s.mappedBank 1 ≠ none)

/-- With both windows backed the bus answers every address (20_memory.md R50). -/
theorem busRead_ne_none_of_romBacked (h : s.romBacked = true) (addr : Word) : s.busRead addr ≠ none := by
  intro hn
  obtain ⟨-, slot, -, -, hbank⟩ := busRead_eq_none hn
  exact mappedBank_ne_none_of_romBacked h slot hbank

end

/-! ### Words -/

theorem word_eq_wordOf (hi lo : Byte) : word hi lo = wordOf hi lo := by
  have hh : hi.toNat < 256 := hi.isLt
  have hl : lo.toNat < 256 := lo.isLt
  apply BitVec.eq_of_toNat_eq
  rw [word, BitVec.toNat_ofNat, wordOf_toNat, Nat.mod_eq_of_lt (by omega)]

theorem lowOf_eq_lowByte (w : Word) : lowOf w = lowByte w := by
  apply BitVec.eq_of_toNat_eq
  rw [lowOf, BitVec.toNat_ofNat, lowByte_toNat, Nat.mod_mod]

theorem highOf_eq_highByte (w : Word) : highOf w = highByte w := by
  have hw : w.toNat < 65536 := w.isLt
  apply BitVec.eq_of_toNat_eq
  rw [highOf, BitVec.toNat_ofNat, highByte_toNat, Nat.mod_eq_of_lt (by omega)]

theorem readPair_of_some {lowAddr highAddr : Word} {lo hi : Byte} {s : State}
    (hlo : s.busRead lowAddr = some lo) (hhi : (afterRead s lowAddr lo).busRead highAddr = some hi) :
    readPair lowAddr highAddr s =
      .ok (wordOf hi lo) (afterRead (afterRead s lowAddr lo) highAddr hi) := by
  rw [readPair, read8_of_some hlo, Ran.andThen_ok]
  exact congrArg (Ran.andThen · _) (read8_of_some hhi)

/-! ### The obligations -/

/-- Settles O14, range by range. -/
theorem addressDecode : Obligations.AddressDecode := by
  intro addr
  refine ⟨busTarget_workRam, busTarget_ioWindow, busTarget_apuStub, busTarget_expStub, busTarget_battStub,
    fun h h' => ?_, fun h => ?_⟩
  · rw [busTarget_prgRom h, if_pos h']
  · rw [busTarget_prgRom (by omega), if_neg (by omega)]

/-- Settles O15: the four mirrors of an address decode to the RAM offset that was written. -/
theorem ramWriteIsSeenThroughEveryMirror : Obligations.RamWriteIsSeenThroughEveryMirror := by
  intro s addr v h
  have htarget := busTarget_workRam h
  have hwrite := write8_ram s v htarget
  refine ⟨read8_ram s htarget, fun k hk => ?_, fun other hother => ?_, _, hwrite⟩
  · have hmirror : busTarget (BitVec.ofNat 16 (addr.toNat % 0x800 + k * 0x800)) =
        .ram (addr.toNat % 0x800) := by
      have hval : (BitVec.ofNat 16 (addr.toNat % 0x800 + k * 0x800)).toNat =
          addr.toNat % 0x800 + k * 0x800 := by
        rw [BitVec.toNat_ofNat]; omega
      rw [busTarget_workRam (by omega), hval]
      congr 1
      omega
    rw [hwrite, State.busRead, hmirror]
    exact congrArg some (Memory.get_set_same _ _ _)
  · rw [hwrite]
    exact Memory.get_set_other _ _ hother

/-- Settles O16: the window picks the slot, and the cartridge the bank behind it. -/
theorem programRomReads : Obligations.ProgramRomReads := by
  intro s addr h
  have hslot0 (h' : addr.toNat < 0xC000) : busTarget addr = .prg 0 (addr.toNat % 0x4000) := by
    rw [busTarget_prgRom h, if_pos h']
  have hslot1 (h' : 0xC000 ≤ addr.toNat) : busTarget addr = .prg 1 (addr.toNat % 0x4000) := by
    rw [busTarget_prgRom h, if_neg (by omega)]
  refine ⟨fun h' bank hb => ?_, fun h' bank hb => ?_, fun h' bank hb hm => ?_, fun h' bank hb hm => ?_,
    fun hb => ?_⟩
  · exact read8_prg s (hslot0 h') hb
  · exact read8_prg s (hslot1 h') (mappedBank_one_of_some hb)
  · exact read8_prg s (hslot1 h') ((mappedBank_one_of_single hb).trans (if_pos hm))
  · exact read8_prg_of_none s (hslot1 h') ((mappedBank_one_of_single hb).trans (by simp [hm]))
  · exact read8_prg_of_none s (busTarget_prgRom h) (mappedBank_of_nil hb _)

/-- Settles O17: each address range is one target, or three with the same answer. -/
theorem romAndStubAccesses : Obligations.RomAndStubAccesses := by
  intro s addr v
  refine ⟨fun h => write8_prg s v (busTarget_prgRom h), fun h h' => write8_stub s v ?_,
    fun h h' => read8_apuStub s (busTarget_apuStub h h'), fun h h' => ?_⟩
  · by_cases hapu : addr.toNat < 0x4020
    · exact .inl (busTarget_apuStub h hapu)
    · by_cases hexp : addr.toNat < 0x6000
      · exact .inr (.inl (busTarget_expStub (by omega) hexp))
      · exact .inr (.inr (busTarget_battStub (by omega) h'))
  · by_cases hexp : addr.toNat < 0x6000
    · exact read8_expStub s (busTarget_expStub h hexp)
    · exact read8_battStub s (busTarget_battStub (by omega) h')

/-- Settles O18: the window's target is the register, whatever the oracle answers. -/
theorem ioWindowAccesses : Obligations.IoWindowAccesses := by
  rintro s addr v r h h' rfl
  have htarget := busTarget_ioWindow h h'
  exact ⟨read8_io s htarget, fun hr => by rw [write8_io s v htarget, if_pos hr]; rfl,
    fun hr => by rw [write8_io s v htarget, if_neg hr]; rfl⟩

/-- Settles O19: the next address is `addr + 1` in 16 bits. -/
theorem wordsAreLittleEndian : Obligations.WordsAreLittleEndian := by
  rintro s addr next lo hi hnext hlo hhi
  have hsucc : addr + 1 = next := by
    rw [hnext]
    exact BitVec.eq_of_toNat_eq (by simp [BitVec.toNat_add])
  rw [readWord, hsucc, word_eq_wordOf]
  exact readPair_of_some hlo hhi

end Sys2Proof.Machine
end

section
/-! PROOF. Pushes and pulls (20_memory.md R54 to R57). -/

namespace Sys2Proof.Machine

open Sys2Proof.Spec

theorem stackAddress_eq_stackAddr (sp : Byte) : stackAddress sp = stackAddr sp := by
  have hsp : sp.toNat < 256 := sp.isLt
  apply BitVec.eq_of_toNat_eq
  rw [stackAddress, stackCell, BitVec.toNat_ofNat, stackAddr_toNat, Nat.mod_eq_of_lt (by omega)]

theorem push_eq_pushed (v : Byte) (s : State) : push v s = pushed v s := by
  rw [push_eq, pushed, stackAddress_eq_stackAddr]
  rfl

theorem push16_eq_pushed (w : Word) (s : State) :
    push16 w s = pushed (lowOf w) (pushed (highOf w) s) := by
  rw [push16, push_eq_pushed, push_eq_pushed, lowOf_eq_lowByte, highOf_eq_highByte]

theorem pull_eq_pullByte (s : State) :
    pull s = .ok (pullByte s 1) { s with sp := s.sp + 1, log := pullEvent s 1 :: s.log } := by
  rw [pull_eq, pullEvent, stackAddress_eq_stackAddr]
  rfl

theorem pull16_eq_pullByte (s : State) :
    pull16 s = .ok (word (pullByte s 2) (pullByte s 1))
      { s with sp := s.sp + 2, log := pullEvent s 2 :: pullEvent s 1 :: s.log } := by
  have hsp : s.sp + 1 + 1 = s.sp + 2 := by rw [BitVec.add_assoc]; rfl
  simp only [pull16, pull_eq_pullByte, Ran.andThen_ok, pullByte, pullEvent, hsp, word_eq_wordOf]

/-- Two neighbouring stack bytes are distinct RAM cells, also where SP wraps. -/
theorem stackCell_sub_one_ne (sp : Byte) : stackCell sp ≠ stackCell (sp - 1) := by
  simp only [stackCell]
  bv_omega

/-- The stack bytes above SP after a 16-bit push are the word's (20_memory.md R57). -/
theorem pull16_push16 (w : Word) (s : State) : ∃ t, pull16 (push16 w s) = .ok w t ∧ t.sp = s.sp := by
  have hlo : (push16 w s).sp + 1 = s.sp - 1 := by simp
  have hhi : (push16 w s).sp + 2 = s.sp := by rw [push16_sp]; bv_omega
  have hram : (push16 w s).ram = (s.ram.set (stackCell s.sp) (highOf w)).set (stackCell (s.sp - 1)) (lowOf w) := by
    rw [push16_eq_pushed]; rfl
  have hlow : pullByte (push16 w s) 1 = lowOf w := by
    rw [pullByte, hlo, hram, Memory.get_set_same]
  have hhigh : pullByte (push16 w s) 2 = highOf w := by
    rw [pullByte, hhi, hram, Memory.get_set_other _ _ (stackCell_sub_one_ne s.sp), Memory.get_set_same]
  have hword : word (pullByte (push16 w s) 2) (pullByte (push16 w s) 1) = w := by
    rw [hlow, hhigh, word_eq_wordOf, lowOf_eq_lowByte, highOf_eq_highByte, wordOf_high_low]
  exact ⟨_, (pull16_eq_pullByte _).trans (by rw [hword]), hhi⟩

/-- Settles O20: the stack page is RAM, so every push stores and every pull goes on. -/
theorem stackPushAndPull : Obligations.StackPushAndPull := fun s v w =>
  ⟨push_eq_pushed v s, pull_eq_pullByte s, push16_eq_pushed w s, pull16_eq_pullByte s, pull16_push16 w s⟩

end Sys2Proof.Machine
end

section
/-! PROOF. A fetch that finds no program bank (40_pipeline_addressing.md R101, R102, R123). -/

namespace Sys2Proof.Machine

open Sys2Proof.Spec

/-- Each byte of a `Fetches` chain is one fetch that goes on. -/
theorem fetchByte_of_fetches {b : Byte} {bs : List Byte} {s t : State} (h : Fetches (b :: bs) s t) :
    ∃ s1, fetchByte s = .ok b s1 ∧ Fetches bs s1 t :=
  ⟨_, fetchByte_of_some h.1, h.2⟩

theorem fetchByte_of_fetches_nil {s t : State} (h : Fetches [] s t) (hn : t.busRead t.pc = none) :
    fetchByte s = .stop (.missingPrgBank t.pc) t := by
  cases h
  exact fetchByte_of_none hn

theorem fetchInstr_of_truncated {bytes : List Byte} {s t : State} (h : decode bytes = .rejected .truncated)
    (hf : Fetches bytes s t) (hn : t.busRead t.pc = none) :
    fetchInstr s = .stop (.missingPrgBank t.pc) t := by
  cases bytes with
  | nil => rw [fetchInstr, fetchByte_of_fetches_nil hf hn, Ran.andThen_stop]
  | cons op rest =>
    obtain ⟨s1, hop, hf1⟩ := fetchByte_of_fetches hf
    rw [fetchInstr, hop, Ran.andThen_ok]
    cases hform : decodeOpcode op with
    | none => simp [decode, hform] at h
    | some form =>
      cases form with
      | complete i => simp [decode, hform] at h
      | byte f | displacement f =>
        cases rest with
        | nil => simp only [fetchByte_of_fetches_nil hf1 hn, Ran.andThen_stop]
        | cons b rest => simp [decode, hform] at h
      | address f =>
        match rest with
        | [] => simp only [fetchByte_of_fetches_nil hf1 hn, Ran.andThen_stop]
        | [lo] =>
          obtain ⟨s2, hlo, hf2⟩ := fetchByte_of_fetches hf1
          simp only [hlo, Ran.andThen_ok, fetchByte_of_fetches_nil hf2 hn, Ran.andThen_stop]
        | lo :: hi :: rest => simp [decode, hform] at h

theorem step_of_fetch_stop {s t : State} {addr : Word} (hf : s.fault = none) (hd : s.interruptDue = false)
    (h : fetchInstr s = .stop (.missingPrgBank addr) t) : step s = missingBank addr t := by
  rw [step_of_not_interruptDue hf hd, runInstr, h]
  rfl

/-- Settles O9: the fetch phase stops at the byte that is missing, and the step with it. -/
theorem missingBankStopsTheFetch : Obligations.MissingBankStopsTheFetch :=
  fun _ _ _ hf hd htrunc hfetch hn => step_of_fetch_stop hf hd (fetchInstr_of_truncated htrunc hfetch hn)

end Sys2Proof.Machine
end

section
/-! PROOF. Effective addresses, and an operand read that finds no program bank (40_pipeline_addressing.md
R103 to R115, R123). -/

namespace Sys2Proof.Machine

open Sys2Proof.Spec

/-! ### Effective addresses as numbers -/

theorem zext_eq_ofNat (b : Byte) : zext b = BitVec.ofNat 16 b.toNat := by
  apply BitVec.eq_of_toNat_eq
  rw [zext, BitVec.toNat_setWidth, BitVec.toNat_ofNat]

theorem zext_add_eq_ofNat (b index : Byte) :
    zext (b + index) = BitVec.ofNat 16 ((b.toNat + index.toNat) % 256) := by
  rw [zext_eq_ofNat, BitVec.toNat_add]

theorem add_zext_eq_ofNat (addr : Word) (index : Byte) :
    addr + zext index = BitVec.ofNat 16 ((addr.toNat + index.toNat) % 65536) := by
  have hindex : index.toNat < 256 := index.isLt
  apply BitVec.eq_of_toNat_eq
  rw [BitVec.toNat_add, zext, BitVec.toNat_setWidth, BitVec.toNat_ofNat, Nat.mod_mod,
    Nat.mod_eq_of_lt (a := index.toNat) (by omega)]

theorem add_eq_zpSum (b index : Byte) : b + index = zpSum b index :=
  BitVec.eq_of_toNat_eq (by rw [zpSum, BitVec.toNat_add, BitVec.toNat_ofNat, Nat.mod_mod])

theorem zpHigh_lt (s : State) (z : Byte) : zpHigh s z < 0x800 := by
  have hz : z.toNat < 256 := z.isLt
  rw [zpHigh]
  split <;> omega

theorem zpPointerHigh_eq_ofNat (s : State) (z : Byte) :
    zpPointerHigh s.params z = BitVec.ofNat 16 (zpHigh s z) := by
  have hz : z.toNat < 256 := z.isLt
  rw [zpPointerHigh, zpHigh]
  split
  · exact zext_add_eq_ofNat z 1
  · rw [zext_eq_ofNat, BitVec.ofNat_add]
    rfl

theorem busTarget_ofNat_ram {n : Nat} (h : n < 0x800) : busTarget (BitVec.ofNat 16 n) = .ram n := by
  have hn : (BitVec.ofNat 16 n).toNat = n := by rw [BitVec.toNat_ofNat, Nat.mod_eq_of_lt (by omega)]
  rw [busTarget_workRam (by omega), hn, Nat.mod_eq_of_lt h]

/-- A zero-page pointer lies in RAM, so its two reads go on (20_memory.md R43; R114, R115). -/
theorem readZpPointer_eq (z : Byte) (s : State) :
    readZpPointer z s = .ok (BitVec.ofNat 16 (zpPointer s z)) { s with log := pointerReads s z ++ s.log } := by
  have hz : z.toNat < 256 := z.isLt
  rw [readZpPointer, readPair, zext_eq_ofNat, zpPointerHigh_eq_ofNat,
    read8_ram s (busTarget_ofNat_ram (by omega)), Ran.andThen_ok,
    read8_ram _ (busTarget_ofNat_ram (zpHigh_lt s z)), Ran.andThen_ok, ← word_eq_wordOf]
  rfl

/-- The effective address of every memory mode (R107 to R112, R114, R115); resolving one never stops. -/
theorem resolve_eq (m : MemMode) (s : State) : resolve m s = .ok (effectiveAddress s m) (afterResolve s m) := by
  cases m with
  | zeroPage b => exact congrArg (Ran.ok · s) (zext_eq_ofNat b)
  | zeroPageX b => exact congrArg (Ran.ok · s) (zext_add_eq_ofNat b s.x)
  | zeroPageY b => exact congrArg (Ran.ok · s) (zext_add_eq_ofNat b s.y)
  | absolute addr => rfl
  | absoluteX addr => exact congrArg (Ran.ok · s) (add_zext_eq_ofNat addr s.x)
  | absoluteY addr => exact congrArg (Ran.ok · s) (add_zext_eq_ofNat addr s.y)
  | indexedIndirect b =>
    rw [resolve, add_eq_zpSum, readZpPointer_eq]
    rfl
  | indirectIndexed b =>
    have hptr : (BitVec.ofNat 16 (zpPointer s b)).toNat = zpPointer s b := by
      have hlo := (s.ram.get b.toNat).isLt
      have hhi := (s.ram.get (zpHigh s b)).isLt
      rw [BitVec.toNat_ofNat, zpPointer, Nat.mod_eq_of_lt (by omega)]
    rw [resolve, readZpPointer_eq, Ran.andThen_ok, add_zext_eq_ofNat, hptr]
    rfl

/-! ### An operand that no bank backs -/

section
variable {m : MemMode} {s : State}

theorem readTarget_of_missing (h : operandValue s (.memory m) = none) :
    readTarget m s = .stop (.missingPrgBank (effectiveAddress s m)) (afterResolve s m) := by
  rw [readTarget, resolve_eq, Ran.andThen_ok, read8_of_none h, Ran.andThen_stop]

theorem withOperand_of_missing (k : Byte → State → State) (h : operandValue s (.memory m) = none) :
    withOperand (.memory m) k s = missingBank (effectiveAddress s m) (afterResolve s m) := by
  rw [withOperand, operandRead, readTarget_of_missing h]
  rfl

theorem modifyMemory_of_missing (op : ByteOp) (h : operandValue s (.memory m) = none) :
    modifyMemory op m s = missingBank (effectiveAddress s m) (afterResolve s m) := by
  rw [modifyMemory, readTarget_of_missing h]
  rfl

theorem storeByte_of_missing (v : Byte) (hr : s.params.storeReads = true)
    (h : operandValue s (.memory m) = none) :
    storeByte m v s = missingBank (effectiveAddress s m) (afterResolve s m) := by
  have hr' : (afterResolve s m).params.storeReads = true := hr
  rw [storeByte, resolve_eq, Ran.andThen_ok, if_pos hr', read8_of_none h]
  rfl

end

/-! ### The shape of each mnemonic's forms -/

theorem exec_operandReader {form : Operand → Option Instr} (hform : form ∈ operandReaders) {m : MemMode}
    {i : Instr} (hi : form (.memory m) = some i) : ∃ k, exec i = withOperand (.memory m) k := by
  simp only [operandReaders, List.mem_cons, List.not_mem_nil, or_false] at hform
  rcases hform with rfl | rfl | rfl | rfl | rfl | rfl | rfl | rfl | rfl | rfl | rfl | rfl
  all_goals cases m <;> cases hi <;> exact ⟨_, rfl⟩

theorem exec_modifier {form : MemMode → Option Instr} (hform : form ∈ modifiers) {m : MemMode} {i : Instr}
    (hi : form m = some i) : ∃ op, exec i = modifyMemory op m := by
  simp only [modifiers, List.mem_cons, List.not_mem_nil, or_false] at hform
  rcases hform with rfl | rfl | rfl | rfl | rfl | rfl
  all_goals cases m <;> cases hi <;> exact ⟨_, rfl⟩

theorem exec_storer {form : MemMode → Option Instr} (hform : form ∈ storers) {m : MemMode} {i : Instr}
    (hi : form m = some i) : ∃ reg : State → Byte, exec i = fun s => storeByte m (reg s) s := by
  simp only [storers, List.mem_cons, List.not_mem_nil, or_false] at hform
  rcases hform with rfl | rfl | rfl
  · exact ⟨State.a, by cases m <;> cases hi <;> rfl⟩
  · exact ⟨State.x, by cases m <;> cases hi <;> rfl⟩
  · exact ⟨State.y, by cases m <;> cases hi <;> rfl⟩

/-! ### The obligation -/

/-- Settles O42: every form has the shape of its mnemonic's group, and each shape reads its operand before
it changes anything. -/
theorem missingBankStopsTheOperandRead : Obligations.MissingBankStopsTheOperandRead := by
  refine ⟨fun form hform m i s hi h => ?_, fun form hform m i s hi h => ?_, fun form hform m i s hi hr h => ?_⟩
  · obtain ⟨k, hexec⟩ := exec_operandReader hform hi
    rw [hexec, withOperand_of_missing k h]
  · obtain ⟨op, hexec⟩ := exec_modifier hform hi
    rw [hexec, modifyMemory_of_missing op h]
  · obtain ⟨reg, hexec⟩ := exec_storer hform hi
    rw [hexec]
    exact storeByte_of_missing (reg s) hr h

end Sys2Proof.Machine
end

section
/-! PROOF. How an executing instruction can end (20_memory.md R50; 40_pipeline_addressing.md R123;
60_exceptions.md R211). -/

namespace Sys2Proof.Machine

open Sys2Proof.Spec

/-! ### Phases that stop on a missing bank only -/

/-- Every frame keeps what decides whether a read finds a bank. -/
theorem busRead_none_of_frame {w : Footprint} {s t : State} {addr : Word} (h : Frame w s t)
    (ht : t.busRead addr = none) : s.busRead addr = none := by
  obtain ⟨-, slot, off, htarget, hbank⟩ := busRead_eq_none ht
  rw [mappedBank_congr h.cart h.params] at hbank
  simp only [State.busRead, htarget, hbank, Option.map_none]

/-- A phase that, when it stops, stops on a read of an address with no bank, having written what a step may
write. -/
def StopsOnMissingBank {α : Type} (s : State) (r : Ran α) : Prop :=
  ∀ c t, r = .stop c t →
    Frame stepFootprint s t ∧ ∃ addr, c = .missingPrgBank addr ∧ s.busRead addr = none

namespace StopsOnMissingBank

variable {s : State}

theorem ok {α : Type} (v : α) (t : State) : StopsOnMissingBank s (.ok v t) :=
  fun _ _ h => by cases h

theorem ofOnlyReads {α : Type} {r : Ran α} (h : OnlyReads s r) : StopsOnMissingBank s r := fun c t hr =>
  ⟨.ofOnlyLogs (h.2 c t hr).1, (h.2 c t hr).2⟩

/-- Stopping after a phase that went on and wrote what a step may write. -/
theorem afterFrame {α : Type} {t : State} {r : Ran α} (h : Frame stepFootprint s t)
    (hr : StopsOnMissingBank t r) : StopsOnMissingBank s r := fun c u hu => by
  obtain ⟨hframe, addr, hc, hn⟩ := hr c u hu
  exact ⟨h.trans hframe, addr, hc, busRead_none_of_frame h hn⟩

theorem andThen_ok {α β : Type} {r : Ran α} {k : α → State → Ran β} (hr : StopsOnMissingBank s r)
    (hk : ∀ v t, ∃ w u, k v t = .ok w u) : StopsOnMissingBank s (r.andThen k) := by
  cases r with
  | ok v t =>
    obtain ⟨w, u, he⟩ := hk v t
    rw [Ran.andThen_ok, he]
    exact ok w u
  | stop c t => exact fun c' u h => by cases h; exact hr c t rfl

theorem pull (s : State) : StopsOnMissingBank s (Machine.pull s) := pull_eq_pullByte s ▸ ok _ _

theorem pull16 (s : State) : StopsOnMissingBank s (Machine.pull16 s) := pull16_eq_pullByte s ▸ ok _ _

theorem returnFromTrap (s : State) : StopsOnMissingBank s (Machine.returnFromTrap s) :=
  returnFromTrap_eq s ▸ ok _ _

/-- The vector is read after the pushes and the setting of P.I. -/
theorem enterTrap (ret : Word) (status : Byte) (vector : Word) (s : State) :
    StopsOnMissingBank s (Machine.enterTrap ret status vector s) := by
  have hread (t : State) := ofOnlyReads (OnlyReads.readPair vector (vector + 1) t)
  have hi (t : State) : Frame stepFootprint t (t.setP { t.p with i := true }) :=
    .setP ((setI_flags t.p true).mono (by decide))
  exact (afterFrame (.push16 rfl ret s) (afterFrame (.push rfl status _) (afterFrame (hi _) (hread _)))).andThen_ok
    fun _ _ => ⟨_, _, rfl⟩

end StopsOnMissingBank

/-! ### Outcomes -/

/-- An instruction completes, or a read it makes finds no bank and it ends there. -/
def CompletesOrMissesBank (s : State) (o : Outcome) : Prop :=
  (∃ t, o = .next t) ∨
    ∃ addr t, o = missingBank addr t ∧ s.busRead addr = none ∧ Frame stepFootprint s t

theorem completesOrMissesBank_finish {α : Type} {s : State} {r : Ran α} (k : α → State → State)
    (h : StopsOnMissingBank s r) : CompletesOrMissesBank s (r.finish k) := by
  cases r with
  | ok v t => exact .inl ⟨_, rfl⟩
  | stop c t =>
    obtain ⟨hframe, addr, rfl, hn⟩ := h c t rfl
    exact .inr ⟨addr, t, rfl, hn, hframe⟩

theorem completesOrMissesBank_storeByte (m : MemMode) (v : Byte) (s : State) :
    CompletesOrMissesBank s (storeByte m v s) := by
  refine completesOrMissesBank_finish _ (.ofOnlyReads ((OnlyReads.resolve m s).andThen fun ea t _ => ?_))
  split
  · exact (OnlyReads.read8 ea t).andThen fun _ _ _ => OnlyReads.ok _ _
  · exact OnlyReads.ok t ea

/-- No instruction is refused, and the only fault is a missing bank. The instructions not listed read an
operand from memory and change registers and flags by it. -/
theorem exec_completesOrMissesBank (i : Instr) (s : State) : CompletesOrMissesBank s (exec i s) := by
  cases i
  case inx | iny | dex | dey | aslAcc | lsrAcc | rolAcc | rorAcc | tax | tay | txa | tya | tsx | txs
      | jmpAbs | clc | sec | cli | sei | cld | sed | clv | nop | pha | php | jsr | bcc | bcs | beq | bmi | bne
      | bpl | bvc | bvs | adcImm | sbcImm | andImm | oraImm | eorImm | cmpImm | cpxImm | cpyImm | ldaImm | ldxImm
      | ldyImm =>
    exact .inl ⟨_, rfl⟩
  case staIzx | staZp | staAbs | staIzy | staZpx | staAby | staAbx | stxZp | stxAbs | stxZpy | styZp
      | styAbs | styZpx =>
    exact completesOrMissesBank_storeByte _ _ s
  case incZp | incAbs | incZpx | incAbx | decZp | decAbs | decZpx | decAbx | aslZp | aslAbs | aslZpx
      | aslAbx | lsrZp | lsrAbs | lsrZpx | lsrAbx | rolZp | rolAbs | rolZpx | rolAbx | rorZp | rorAbs
      | rorZpx | rorAbx =>
    exact completesOrMissesBank_finish _ (.ofOnlyReads (OnlyReads.readTarget _ s))
  case pla | plp => exact completesOrMissesBank_finish _ (.pull s)
  case rts => exact completesOrMissesBank_finish _ (.pull16 s)
  case rti => exact completesOrMissesBank_finish _ (.returnFromTrap s)
  case brk => exact completesOrMissesBank_finish _ (.enterTrap _ _ _ s)
  case jmpInd addr => exact completesOrMissesBank_finish _ (.ofOnlyReads (OnlyReads.resolveIndirect addr s))
  all_goals exact completesOrMissesBank_finish _ (.ofOnlyReads (OnlyReads.operandRead _ s))

/-! ### The obligations -/

/-- Settles O12: a fault is the missing bank of a read, and every frame keeps the cartridge and the
parameters and only adds to the log. -/
theorem executionFaultsOnlyOnMissingBanks : Obligations.ExecutionFaultsOnlyOnMissingBanks := by
  intro i s f hf
  rcases exec_completesOrMissesBank i s with ⟨t, h⟩ | ⟨addr, t, h, hn, hframe⟩
  · exact nomatch h.symm.trans hf
  · cases h.symm.trans hf
    exact ⟨addr, _, rfl, (busRead_eq_none hn).1, hn, rfl, hframe.cart, hframe.params,
      hframe.log.imp fun _ => Eq.symm⟩

/-- Settles O13: with both windows backed there is no address whose read finds no bank. -/
theorem everyInstructionCompletesWhenRomIsBacked : Obligations.EveryInstructionCompletesWhenRomIsBacked := by
  intro i s hs
  rcases exec_completesOrMissesBank i s with h | ⟨addr, t, -, hn, -⟩
  · exact h
  · exact absurd hn (busRead_ne_none_of_romBacked hs addr)

end Sys2Proof.Machine
end

section
/-! PROOF. The memory an instruction leaves unchanged when it stores nothing, or only pushes (20_memory.md R55,
R57; 40_pipeline_addressing.md R117). -/

namespace Sys2Proof.Machine

open Sys2Proof.Spec

/-! ### RAM outside a list of bus addresses -/

/-- From `s` to `t` no RAM byte changes but those the addresses select. -/
def KeepsRamBut (es : List Word) (s t : State) : Prop :=
  ∀ off, (∀ e ∈ es, busTarget e ≠ .ram off) → t.ram.get off = s.ram.get off

namespace KeepsRamBut

variable {es fs : List Word} {s t u : State}

theorem ofRamEq (h : t.ram = s.ram) : KeepsRamBut es s t := fun _ _ => by rw [h]

theorem trans (h : KeepsRamBut es s t) (g : KeepsRamBut fs t u) : KeepsRamBut (es ++ fs) s u := by
  intro off hoff
  rw [g off fun e he => hoff e (List.mem_append_right es he),
    h off fun e he => hoff e (List.mem_append_left fs he)]

theorem push (v : Byte) (s : State) : KeepsRamBut [stackAddr s.sp] s (Machine.push v s) := by
  intro off hoff
  have hne : off ≠ stackCell s.sp := by
    rintro rfl
    exact hoff _ (List.mem_singleton_self _) (busTarget_stackAddr s.sp)
  rw [push_eq_pushed]
  exact Memory.get_set_other _ _ hne

theorem push16 (w : Word) (s : State) :
    KeepsRamBut [stackAddr s.sp, stackAddr (s.sp - 1)] s (Machine.push16 w s) :=
  (push (highByte w) s).trans (push (lowByte w) (Machine.push (highByte w) s))

end KeepsRamBut

theorem storedByte_of_keepsRamBut {es : List Word} {s t : State} {addr : Word} (hc : t.cart = s.cart)
    (hp : t.params = s.params) (h : KeepsRamBut es s t) (haddr : ∀ e ∈ es, busTarget addr ≠ busTarget e) :
    storedByte t addr = storedByte s addr := by
  cases htarget : busTarget addr with
  | ram off =>
    have hget : t.ram.get off = s.ram.get off := h off fun e he heq => haddr e he (htarget.trans heq.symm)
    simp only [storedByte, htarget, hget]
  | prg slot off => simp only [storedByte, htarget, mappedBank_congr hc hp]
  | io | apuStub | expStub | battStub => simp only [storedByte, htarget, hp]

/-! ### RAM across an instruction -/

theorem ram_of_onlyLogs {s t : State} (h : OnlyLogs s t) : t.ram = s.ram := by
  obtain ⟨events, rfl⟩ := h
  rfl

theorem withOperand_ram {o : Operand} {k : Byte → State → State} {s t : State}
    (h : withOperand o k s = .next t) (hk : ∀ v s, (k v s).ram = s.ram) : t.ram = s.ram := by
  obtain ⟨v, s1, -, hl, rfl⟩ := withOperand_eq_next h
  rw [hk, ram_of_onlyLogs hl]

theorem pull_finish_ram {k : Byte → State → State} {s t : State} (h : (pull s).finish k = .next t)
    (hk : ∀ v s, (k v s).ram = s.ram) : t.ram = s.ram := by
  rw [pull_eq_pullByte] at h
  cases h
  exact hk _ _

/-- An instruction that stores nothing or only pushes keeps RAM but for the bytes it pushes to. The
instructions not listed read an operand from memory and change registers and flags by it. -/
theorem exec_keepsRamBut {i : Instr} {s t : State} (h : exec i s = .next t)
    (hw : writesMemory i = false ∨ pushedTo i s ≠ []) : KeepsRamBut (pushedTo i s) s t := by
  cases i
  case staIzx | staZp | staAbs | staIzy | staZpx | staAby | staAbx | stxZp | stxAbs | stxZpy | styZp
      | styAbs | styZpx | incZp | incAbs | incZpx | incAbx | decZp | decAbs | decZpx | decAbx | aslZp | aslAbs
      | aslZpx | aslAbx | lsrZp | lsrAbs | lsrZpx | lsrAbx | rolZp | rolAbs | rolZpx | rolAbx | rorZp | rorAbs
      | rorZpx | rorAbx =>
    rcases hw with hstores | hpushes
    · cases hstores
    · exact absurd rfl hpushes
  case pha | php => cases h; exact .push _ s
  case jsr => cases h; exact .push16 _ s
  case brk =>
    obtain ⟨_, s1, h1, rfl⟩ := Ran.finish_eq_next h
    obtain ⟨target, s2, hl, rfl⟩ := enterTrap_eq_ok h1
    have hpushes := (KeepsRamBut.push16 (s.pc + 1) s).trans (.push s.p.pushedByBrk _)
    have hsp : s.sp - 1 - 1 = s.sp - 2 := by bv_omega
    rw [push16_sp, hsp] at hpushes
    have hram := ram_of_onlyLogs hl
    exact hpushes.trans (.ofRamEq (es := []) hram)
  case inx | iny | dex | dey | aslAcc | lsrAcc | rolAcc | rorAcc | tax | tay | txa | tya | tsx | txs
      | jmpAbs | clc | sec | cli | sei | cld | sed | clv | nop | adcImm | sbcImm | andImm | oraImm | eorImm
      | cmpImm | cpxImm | cpyImm | ldaImm | ldxImm | ldyImm =>
    cases h
    exact .ofRamEq rfl
  case bcc | bcs | beq | bmi | bne | bpl | bvc | bvs =>
    cases h
    exact .ofRamEq (by split <;> rfl)
  case jmpInd addr =>
    obtain ⟨target, s1, h1, rfl⟩ := Ran.finish_eq_next h
    have hram := ram_of_onlyLogs ((OnlyReads.resolveIndirect addr s).1 _ _ h1)
    exact .ofRamEq hram
  case pla | plp => exact .ofRamEq (pull_finish_ram h fun _ _ => rfl)
  case rts =>
    rw [exec, execRts, pull16_eq_pullByte] at h
    cases h
    exact .ofRamEq rfl
  case rti =>
    rw [exec, execRti, returnFromTrap_eq] at h
    cases h
    exact .ofRamEq rfl
  all_goals exact .ofRamEq (withOperand_ram h fun _ _ => rfl)

/-! ### The obligation -/

/-- Settles O46: the byte behind an address is in RAM, which is kept but for the pushed bytes, or in the
cartridge and the parameters, which no instruction writes. -/
theorem memoryFrameOfNonStoringAndPushing : Obligations.MemoryFrameOfNonStoringAndPushing := by
  intro i s t addr h hw haddr
  have frame := exec_frame h
  exact storedByte_of_keepsRamBut frame.cart frame.params (exec_keepsRamBut h hw) haddr

end Sys2Proof.Machine
end

section
/-! PROOF. The header parser, the loader and the constructed machine (20_memory.md R59, R60, R62;
70_reset_and_hazards.md R230). -/

namespace Sys2Proof.Machine

open Sys2Proof.Spec

/-! ### The header -/

theorem parseHeader_length {h : List Byte} {hd : Header} (hp : parseHeader h = some hd) : h.length = 16 := by
  unfold parseHeader at hp
  split at hp
  · rfl
  · cases hp

/-- Settles O57: on sixteen bytes the parser is one test and seven fields. -/
theorem headerValidation : Obligations.HeaderValidation := by
  intro h hd hlen
  refine ⟨?_, rfl, rfl⟩
  match h, hlen with
  | [h0, h1, h2, h3, prg, chr, f6, f7, prgRam, f9, f10, h11, h12, h13, h14, h15], _ =>
    obtain ⟨prg', chr', f6', f7', prgRam', f9', f10'⟩ := hd
    rw [parseHeader, Option.ite_none_right_eq_some, Option.some_inj, Header.mk.injEq, and_assoc]
    refine and_congr_right fun _ => and_congr_right fun _ => ⟨?_, ?_⟩
    all_goals
      rintro ⟨rfl, rfl, rfl, rfl, rfl, rfl, rfl⟩
      exact ⟨rfl, rfl, rfl, rfl, rfl, rfl, rfl⟩

/-! ### Reads of the byte source -/

/-- A fixed-length read takes the front of the source, and fails exactly when the source is shorter (R60). -/
theorem readExact_eq (n : Nat) (src : ByteSource) :
    readExact n src = if n ≤ src.length then some (src.take n, src.drop n) else none := by
  induction n generalizing src with
  | zero => simp [readExact]
  | succ n ih =>
    cases src with
    | nil => rfl
    | cons b rest =>
      rw [readExact, ih]
      by_cases h : n ≤ rest.length <;> simp [h]

theorem readExact_append {n : Nat} {bytes : List Byte} (rest : ByteSource) (h : bytes.length = n) :
    readExact n (bytes ++ rest) = some (bytes, rest) := by
  subst h
  simp [readExact_eq]

theorem readExact_eq_some {n : Nat} {src rest : ByteSource} {bytes : List Byte}
    (h : readExact n src = some (bytes, rest)) : bytes.length = n ∧ bytes.length + rest.length = src.length := by
  rw [readExact_eq] at h
  split at h
  · cases h
    simp only [List.length_take, List.length_drop]
    omega
  · cases h

theorem readBanks_flatten {size : Nat} {banks : List (List Byte)} (rest : ByteSource)
    (h : ∀ bank ∈ banks, bank.length = size) :
    readBanks size banks.length (banks.flatten ++ rest) = some (banks.map Memory.ofBytes, rest) := by
  induction banks with
  | nil => rfl
  | cons bank banks ih =>
    rw [List.forall_mem_cons] at h
    simp only [List.length_cons, List.flatten_cons, List.append_assoc, readBanks, readExact_append _ h.1, ih h.2,
      List.map_cons]

/-- Banks that were read are as many as asked for, each of its size in canonical form, and took their bytes
from the source. -/
theorem readBanks_eq_some {size count : Nat} {src rest : ByteSource} {banks : List Memory}
    (h : readBanks size count src = some (banks, rest)) :
    banks.length = count ∧ (∀ bank ∈ banks, bank.wfBelow size = true) ∧
      count * size + rest.length = src.length := by
  induction count generalizing src banks with
  | zero =>
    cases h
    simp
  | succ count ih =>
    unfold readBanks at h
    split at h
    · cases h
    · rename_i bytes rest1 hread
      split at h
      · cases h
      · rename_i banks1 rest2 hbanks
        cases h
        obtain ⟨hlen, hwf, hsize⟩ := ih hbanks
        obtain ⟨hbytes, hsrc⟩ := readExact_eq_some hread
        refine ⟨by rw [List.length_cons, hlen], List.forall_mem_cons.mpr ⟨?_, hwf⟩, ?_⟩
        · rw [← hbytes]
          exact Memory.wfBelow_ofBytes bytes
        · rw [Nat.succ_mul]
          omega

/-- The byte at an offset of a memory made of bytes from offset `j` on. -/
theorem Memory.get_ofBytesFrom (j k : Nat) (bytes : List Byte) :
    (Memory.ofBytesFrom j bytes).get k = if j ≤ k then bytes.getD (k - j) 0 else 0 := by
  induction bytes generalizing j with
  | nil => simp [Memory.ofBytesFrom, Memory.get, Memory.fill]
  | cons b rest ih =>
    have hget : (Memory.ofBytesFrom j (b :: rest)).get k =
        if j = k then b else (Memory.ofBytesFrom (j + 1) rest).get k := by
      by_cases hb : b = Memory.fill
      · by_cases hk : j = k <;> simp [Memory.ofBytesFrom, hb, hk, ih, Memory.fill]
      · simp [Memory.ofBytesFrom, hb, Memory.get]
    rw [hget, ih]
    rcases Nat.lt_trichotomy j k with hlt | rfl | hgt
    · obtain ⟨d, rfl⟩ := Nat.exists_eq_add_of_lt hlt
      have hd : j + d + 1 - j = d + 1 := by omega
      have hd' : j + d + 1 - (j + 1) = d := by omega
      rw [if_neg (by omega), if_pos (by omega), if_pos (by omega), hd, hd', List.getD_cons_succ]
    · simp
    · rw [if_neg (by omega), if_neg (by omega), if_neg (by omega)]

theorem Memory.get_ofBytes (bytes : List Byte) (k : Nat) : (Memory.ofBytes bytes).get k = bytes.getD k 0 := by
  rw [Memory.ofBytes, Memory.get_ofBytesFrom, if_pos (Nat.zero_le k), Nat.sub_zero]

/-! ### The phases of a load -/

/-- The bytes a header's trainer takes (R61). -/
def trainerBytes (hd : Header) : Nat := if hd.flags6.getLsbD 2 then 512 else 0

theorem skipTrainer_append {hd : Header} {trainer : List Byte} (rest : ByteSource)
    (h : trainer.length = trainerBytes hd) : skipTrainer hd (trainer ++ rest) = some rest := by
  unfold trainerBytes at h
  unfold skipTrainer Header.hasTrainer
  split
  · rename_i ht
    rw [if_pos ht] at h
    rw [trainerSize, readExact_append rest h]
    rfl
  · rename_i ht
    rw [if_neg ht] at h
    rw [List.length_eq_zero_iff.mp h, List.nil_append]

theorem skipTrainer_eq_some {hd : Header} {src rest : ByteSource} (h : skipTrainer hd src = some rest) :
    trainerBytes hd + rest.length = src.length := by
  unfold skipTrainer Header.hasTrainer at h
  unfold trainerBytes
  split at h
  · rename_i ht
    obtain ⟨⟨bytes, rest1⟩, hread, rfl⟩ := Option.map_eq_some_iff.mp h
    obtain ⟨hbytes, hsrc⟩ := readExact_eq_some hread
    rw [if_pos ht, ← hsrc, hbytes, trainerSize]
  · rename_i ht
    cases h
    rw [if_neg ht, Nat.zero_add]

theorem loadBanks_flatten {hd : Header} {prg chr : List (List Byte)} (extra : ByteSource)
    (hprg : prg.length = hd.prgCount.toNat) (hchr : chr.length = hd.chrCount.toNat)
    (hp : ∀ bank ∈ prg, bank.length = prgBankSize) (hc : ∀ bank ∈ chr, bank.length = chrBankSize) :
    loadBanks hd (prg.flatten ++ (chr.flatten ++ extra)) =
      some ⟨hd, prg.map Memory.ofBytes, chr.map Memory.ofBytes⟩ := by
  simp only [loadBanks, ← hprg, ← hchr, readBanks_flatten _ hp, readBanks_flatten _ hc]

/-- A cartridge whose banks were read is well formed, and the source held all the bytes declared. -/
theorem loadBanks_eq_some {hd : Header} {src : ByteSource} {cart : Cartridge}
    (h : loadBanks hd src = some cart) :
    cart.wf = true ∧ hd.prgCount.toNat * prgBankSize + hd.chrCount.toNat * chrBankSize ≤ src.length := by
  unfold loadBanks at h
  split at h
  · cases h
  · rename_i prg rest hprg
    split at h
    · cases h
    · rename_i chr rest1 hchr
      cases h
      obtain ⟨hplen, hpwf, hpsize⟩ := readBanks_eq_some hprg
      obtain ⟨hclen, hcwf, hcsize⟩ := readBanks_eq_some hchr
      exact ⟨by simpa [Cartridge.wf, hplen, hclen] using ⟨hpwf, hcwf⟩, by omega⟩

theorem loadCartridge_of_short {src : ByteSource} (h : src.length < 16) :
    loadCartridge src = .error .truncated := by
  rw [loadCartridge, readExact_eq, headerSize, if_neg (by omega)]

theorem loadCartridge_of_badHeader {src : ByteSource} (h : 16 ≤ src.length)
    (hp : parseHeader (src.take 16) = none) : loadCartridge src = .error .badHeader := by
  simp only [loadCartridge, headerSize, readExact_eq, if_pos h, hp]

/-- With a good header a load is what is left: the trainer, then the banks, truncated if either read fails. -/
theorem loadCartridge_of_header {src : ByteSource} {hd : Header} (hp : parseHeader (src.take 16) = some hd) :
    loadCartridge src =
      ((skipTrainer hd (src.drop 16)).bind (loadBanks hd)).elim (.error .truncated) .ok := by
  have hlen := parseHeader_length hp
  have h : 16 ≤ src.length := by
    rw [List.length_take] at hlen
    omega
  simp only [loadCartridge, headerSize, readExact_eq, if_pos h, hp]
  cases skipTrainer hd (src.drop 16) with
  | none => rfl
  | some rest => cases hb : loadBanks hd rest <;> simp [hb]

/-- Everything after the header was there, and makes a well-formed cartridge. -/
theorem skipTrainer_loadBanks_eq_some {hd : Header} {src : ByteSource} {cart : Cartridge}
    (h : (skipTrainer hd src).bind (loadBanks hd) = some cart) :
    cart.wf = true ∧ imageSize hd ≤ 16 + src.length := by
  obtain ⟨rest, hskip, hbanks⟩ := Option.bind_eq_some_iff.mp h
  obtain ⟨hwf, hsize⟩ := loadBanks_eq_some hbanks
  have htrainer := skipTrainer_eq_some hskip
  have himage : imageSize hd =
      16 + trainerBytes hd + hd.prgCount.toNat * prgBankSize + hd.chrCount.toNat * chrBankSize := rfl
  exact ⟨hwf, by omega⟩

/-- What a load gives is well formed (R62). -/
theorem cartridge_wf_of_loadCartridge {src : ByteSource} {cart : Cartridge} (h : loadCartridge src = .ok cart) :
    cart.wf = true := by
  by_cases hlen : src.length < 16
  · cases (loadCartridge_of_short hlen).symm.trans h
  cases hp : parseHeader (src.take 16) with
  | none => cases (loadCartridge_of_badHeader (by omega) hp).symm.trans h
  | some hd =>
    rw [loadCartridge_of_header hp] at h
    cases hload : (skipTrainer hd (src.drop 16)).bind (loadBanks hd) with
    | none => rw [hload] at h; cases h
    | some c =>
      rw [hload] at h
      cases h
      exact (skipTrainer_loadBanks_eq_some hload).1

theorem loadCartridge_image {h trainer extra : List Byte} {prg chr : List (List Byte)} {hd : Header}
    (hp : parseHeader h = some hd) (ht : trainer.length = trainerBytes hd)
    (hprg : prg.length = hd.prgCount.toNat) (hchr : chr.length = hd.chrCount.toNat)
    (hpsize : ∀ bank ∈ prg, bank.length = prgBankSize) (hcsize : ∀ bank ∈ chr, bank.length = chrBankSize) :
    loadCartridge (image h trainer prg chr extra) =
      .ok ⟨hd, prg.map Memory.ofBytes, chr.map Memory.ofBytes⟩ := by
  have hlen := parseHeader_length hp
  have himage : image h trainer prg chr extra = h ++ (trainer ++ (prg.flatten ++ (chr.flatten ++ extra))) := by
    simp only [image, List.append_assoc]
  have htake : (image h trainer prg chr extra).take 16 = h := by rw [himage, List.take_left' hlen]
  rw [loadCartridge_of_header (by rw [htake]; exact hp), himage, List.drop_left' hlen, skipTrainer_append _ ht,
    Option.bind_some, loadBanks_flatten extra hprg hchr hpsize hcsize]
  rfl

theorem loadCartridge_of_truncated {src : ByteSource} {hd : Header} (hp : parseHeader (src.take 16) = some hd)
    (h : src.length < imageSize hd) : loadCartridge src = .error .truncated := by
  rw [loadCartridge_of_header hp]
  cases hload : (skipTrainer hd (src.drop 16)).bind (loadBanks hd) with
  | none => rfl
  | some cart =>
    have hsize := (skipTrainer_loadBanks_eq_some hload).2
    have hlen := parseHeader_length hp
    rw [List.length_take] at hlen
    rw [List.length_drop] at hsize
    omega

/-! ### The obligations -/

/-- Settles O58: a load consumes exactly the bytes its header declares, and every read that comes up short
truncates it. -/
theorem cartridgeLoading : Obligations.CartridgeLoading :=
  ⟨fun _ _ _ _ _ _ _ hp ht hprg hchr hpsize hcsize => loadCartridge_image hp ht hprg hchr hpsize hcsize,
    Memory.get_ofBytes, fun _ => loadCartridge_of_short, fun _ => loadCartridge_of_badHeader,
    fun _ _ => loadCartridge_of_truncated⟩

/-- Settles O59: the other clauses of the invariant are values of the reset state. -/
theorem poweredOnMachineMeetsInvariant : Obligations.PoweredOnMachineMeetsInvariant := by
  intro src ram0 params s hram h
  unfold powerOn at h
  split at h
  · cases h
  · rename_i cart hload
    cases h
    exact (inv_iff _).mpr ⟨hram, cartridge_wf_of_loadCartridge hload, rfl, rfl, rfl⟩

end Sys2Proof.Machine
end

section
/-! PROOF. The decoder and the encoder against each other and against the opcode map (30_encoding.md R80 to
R88). -/

namespace Sys2Proof

open Machine Spec

/-! ### Displacements (30_encoding.md R82) -/

theorem displacementInRange_iff (d : Int) : displacementInRange d = true ↔ -128 ≤ d ∧ d ≤ 127 := by
  simp [displacementInRange]

theorem displacementByte_toInt {d : Int} (h : displacementInRange d = true) : (displacementByte d).toInt = d := by
  obtain ⟨hlo, hhi⟩ := (displacementInRange_iff d).mp h
  exact BitVec.toInt_ofInt_eq_self (by decide) hlo (Int.lt_add_one_of_le hhi)

theorem displacementByte_of_toInt (b : Byte) : displacementByte b.toInt = b := BitVec.ofInt_toInt

theorem displacementInRange_toInt (b : Byte) : displacementInRange b.toInt = true :=
  (displacementInRange_iff _).mpr ⟨b.le_toInt, Int.le_of_lt_add_one b.toInt_lt⟩

/-! ### What the operand bytes make of a form -/

/-- The decoder past the opcode: the form's operand bytes taken from the bytes that follow. -/
def Form.fill : Form → List Byte → Decoded
  | .complete i, rest => .ok i rest
  | .byte f, b :: rest => .ok (f b) rest
  | .displacement f, b :: rest => .ok (f b.toInt) rest
  | .address f, lo :: hi :: rest => .ok (f (wordOf hi lo)) rest
  | _, _ => .rejected .truncated

theorem decode_of_undefined {op : Byte} (rest : List Byte) (h : decodeOpcode op = none) :
    decode (op :: rest) = .rejected (.undefinedOpcode op) := by
  simp only [decode, h]

theorem decode_of_form {op : Byte} {form : Form} (rest : List Byte) (h : decodeOpcode op = some form) :
    decode (op :: rest) = form.fill rest := by
  cases form with
  | complete i => simp only [decode, h, Form.fill]
  | byte f | displacement f => cases rest <;> simp only [decode, h, Form.fill]
  | address f => rcases rest with _ | ⟨lo, _ | ⟨hi, rest⟩⟩ <;> simp only [decode, h, Form.fill]

/-- `form.Makes operands i`: the form with the operand bytes `operands` is the instruction `i`, a
displacement being one its byte can carry. -/
inductive Form.Makes : Form → List Byte → Instr → Prop
  | complete (i : Instr) : Makes (.complete i) [] i
  | byte (f : Byte → Instr) (b : Byte) : Makes (.byte f) [b] (f b)
  | displacement (f : Int → Instr) (d : Int) (h : displacementInRange d = true) :
      Makes (.displacement f) [displacementByte d] (f d)
  | address (f : Word → Instr) (addr : Word) : Makes (.address f) (addressBytes addr) (f addr)

/-- Filling a form takes exactly the operand bytes of the instruction it makes. -/
theorem Form.fill_eq_ok_iff {form : Form} {bytes rest : List Byte} {i : Instr} :
    form.fill bytes = .ok i rest ↔ ∃ operands, form.Makes operands i ∧ bytes = operands ++ rest := by
  constructor
  · intro h
    match form, bytes, h with
    | .complete i, _, rfl => exact ⟨[], .complete i, rfl⟩
    | .byte f, b :: _, rfl => exact ⟨[b], .byte f b, rfl⟩
    | .displacement f, b :: _, rfl =>
      have hmakes := Makes.displacement f b.toInt (displacementInRange_toInt b)
      rw [displacementByte_of_toInt] at hmakes
      exact ⟨[b], hmakes, rfl⟩
    | .address f, lo :: hi :: _, rfl =>
      exact ⟨_, .address f (wordOf hi lo), by simp [addressBytes]⟩
  · rintro ⟨operands, hmakes, rfl⟩
    cases hmakes with
    | complete i => rfl
    | byte f b => rfl
    | displacement f d h => simp [fill, displacementByte_toInt h]
    | address f addr => simp [fill, addressBytes, wordOf_high_low]

/-! ### The two tables against each other (30_encoding.md R80, R81, R87) -/

/-- The encoder's table has every instruction of the decoder's table at the same opcode. -/
theorem row_of_decodeOpcode {op : Byte} {form : Form} {operands : List Byte} {i : Instr}
    (h : decodeOpcode op = some form) (hmakes : form.Makes operands i) :
    i.wellFormed = true ∧ i.opcode = op ∧ i.row.operands = operands := by
  unfold decodeOpcode at h
  split at h <;> cases h
  all_goals
    rename_i hop
    cases hmakes
    exact ⟨by simp [Instr.wellFormed, *], BitVec.eq_of_toNat_eq hop.symm, rfl⟩

/-- The decoder's table has every well-formed instruction of the encoder's table at the same opcode. -/
theorem decodeOpcode_of_wellFormed {i : Instr} (hw : i.wellFormed = true) :
    ∃ form, decodeOpcode i.opcode = some form ∧ form.Makes i.row.operands i := by
  cases i
  all_goals
    -- the opcode as a literal, before `decodeOpcode` is evaluated at it
    dsimp only [Instr.opcode, Instr.row]
    refine ⟨_, rfl, ?_⟩
    constructor
  all_goals exact hw

/-- The decoder inverts the encoder on the well-formed instructions, and accepts nothing else. -/
theorem decode_eq_ok_iff {bytes rest : List Byte} {i : Instr} :
    decode bytes = .ok i rest ↔ i.wellFormed = true ∧ bytes = encode i ++ rest := by
  constructor
  · intro h
    match bytes with
    | [] => cases h
    | op :: bytes =>
      cases hop : decodeOpcode op with
      | none => rw [decode_of_undefined bytes hop] at h; cases h
      | some form =>
        rw [decode_of_form bytes hop] at h
        obtain ⟨operands, hmakes, rfl⟩ := Form.fill_eq_ok_iff.mp h
        obtain ⟨hw, rfl, rfl⟩ := row_of_decodeOpcode hop hmakes
        exact ⟨hw, rfl⟩
  · rintro ⟨hw, rfl⟩
    obtain ⟨form, hop, hmakes⟩ := decodeOpcode_of_wellFormed hw
    exact (decode_of_form _ hop).trans (Form.fill_eq_ok_iff.mpr ⟨_, hmakes, rfl⟩)

/-! ### The cells of the opcode map (30_encoding.md R86 to R88) -/

/-- Two bytes after the opcode are operands enough for every form. -/
theorem Form.fill_of_two_bytes (form : Form) (b1 b2 : Byte) (rest : List Byte) :
    ∃ i after, form.fill (b1 :: b2 :: rest) = .ok i after := by
  cases form <;> exact ⟨_, _, rfl⟩

/-- A defined opcode decodes to a well-formed instruction of that opcode. -/
theorem decode_of_defined {op : Byte} (h : decodeOpcode op ≠ none) (b1 b2 : Byte) (rest : List Byte) :
    ∃ i after, decode (op :: b1 :: b2 :: rest) = .ok i after ∧ i.wellFormed = true ∧ i.opcode = op := by
  obtain ⟨form, hop⟩ := Option.ne_none_iff_exists'.mp h
  obtain ⟨i, after, hfill⟩ := form.fill_of_two_bytes b1 b2 rest
  have hdec := (decode_of_form _ hop).trans hfill
  obtain ⟨hw, henc⟩ := decode_eq_ok_iff.mp hdec
  exact ⟨i, after, hdec, hw, (List.cons.inj henc).1.symm⟩

/-- The 256 opcode values, rising. -/
def allOpcodes : List Byte := (List.finRange 256).map BitVec.ofFin

theorem getElem?_allOpcodes (op : Byte) : allOpcodes[op.toNat]? = some op := by
  simp [allOpcodes, op.isLt]

theorem allOpcodes_nodup : allOpcodes.Nodup :=
  (List.nodup_finRange 256).map fun _ _ => BitVec.ofFin.inj

/-- The opcodes missing in the decoder's table are those of R86. -/
theorem filter_decodeOpcode_isNone :
    allOpcodes.filter (fun op => (decodeOpcode op).isNone) = undefinedOpcodes := by
  decide +kernel

/-- The empty cells of R87's map are the opcodes missing in the decoder's table. -/
theorem map_isNone_opcodeMap :
    opcodeMap.map Option.isNone = allOpcodes.map fun op => (decodeOpcode op).isNone := by
  decide +kernel

theorem opcodeMap_length : opcodeMap.length = 256 := by
  simpa [allOpcodes] using congrArg List.length map_isNone_opcodeMap

theorem mem_undefinedOpcodes_iff {op : Byte} : op ∈ undefinedOpcodes ↔ decodeOpcode op = none := by
  simp [← filter_decodeOpcode_isNone, List.mem_of_getElem? (getElem?_allOpcodes op)]

theorem undefinedOpcodes_nodup : undefinedOpcodes.Nodup :=
  filter_decodeOpcode_isNone ▸ allOpcodes_nodup.filter _

theorem opcodeMap_of_undefined {op : Byte} (h : decodeOpcode op = none) : opcodeMap[op.toNat]? = some none := by
  have hcell := congrArg (·[op.toNat]?) map_isNone_opcodeMap
  simpa [getElem?_allOpcodes, h] using hcell

theorem opcodeMap_opcode (i : Instr) :
    opcodeMap[i.opcode.toNat]? = some (some (i.mnemonic, i.mode, i.cycles)) := by
  cases i <;> rfl

/-! ### The obligations -/

namespace Encoding

/-- Settles O2: the encoding of a well-formed instruction, then the rest, decodes to both. -/
theorem decodeEncodeRoundTrip : Obligations.DecodeEncodeRoundTrip :=
  fun _ _ hw => decode_eq_ok_iff.mpr ⟨hw, rfl⟩

/-- Settles O3: bytes that decode are the encoding of a well-formed instruction, then the rest. -/
theorem encodeDecodeRoundTrip : Obligations.EncodeDecodeRoundTrip :=
  fun _ _ _ => decode_eq_ok_iff.mp

/-- Settles O4: the opcodes missing in the decoder's table are exactly the listed ones. -/
theorem decodeTotalWithExactly151Opcodes : Obligations.DecodeTotalWithExactly151Opcodes :=
  ⟨undefinedOpcodes_nodup, rfl, rfl, fun _ b1 b2 rest =>
    ⟨fun h => decode_of_undefined _ (mem_undefinedOpcodes_iff.mp h),
      fun h => decode_of_defined (mt mem_undefinedOpcodes_iff.mpr h) b1 b2 rest⟩⟩

/-- Settles O5: a defined opcode is that of the decoded instruction, and each instruction has the cell at its
opcode. -/
theorem opcodeMap : Obligations.OpcodeMap := by
  refine ⟨opcodeMap_length, fun op b1 b2 rest => ?_⟩
  by_cases hop : decodeOpcode op = none
  · rw [opcodeMap_of_undefined hop]
    exact decode_of_undefined _ hop
  · obtain ⟨i, after, hdec, -, rfl⟩ := decode_of_defined hop b1 b2 rest
    rw [opcodeMap_opcode]
    exact ⟨i, after, hdec, rfl, rfl, rfl⟩

/-- Settles O1, by running the decoder on each word. -/
theorem decodesWrittenOutWords : Obligations.DecodesWrittenOutWords := by
  unfold Obligations.DecodesWrittenOutWords
  decide

end Encoding

end Sys2Proof
end

section
/-! PROOF. The pipeline: the fetch of a decoded instruction, the resolve phase, and the one byte a store or a
read-modify-write may change (40_pipeline_addressing.md R100 to R119). -/

namespace Sys2Proof.Machine

open Sys2Proof.Spec

/-! ### The fetch of bytes that decode -/

/-- The fetch phase takes exactly the bytes of the instruction they decode to (R101, R102). -/
theorem fetchInstr_of_decode {bytes : List Byte} {i : Instr} {s t : State} (h : decode bytes = .ok i [])
    (hf : Fetches bytes s t) : fetchInstr s = .ok i t := by
  obtain ⟨hw, rfl⟩ := decode_eq_ok_iff.mp h
  rw [List.append_nil] at hf
  obtain ⟨form, hform, hmakes⟩ := decodeOpcode_of_wellFormed hw
  obtain ⟨s1, hop, hf1⟩ : ∃ s1, fetchByte s = .ok i.opcode s1 ∧ Fetches i.row.operands s1 t :=
    fetchByte_of_fetches hf
  simp only [fetchInstr, hop, Ran.andThen_ok, hform]
  generalize i.row.operands = operands at hmakes hf1
  cases hmakes with
  | complete i => cases hf1; rfl
  | byte f b =>
    obtain ⟨s2, hb, rfl⟩ := fetchByte_of_fetches hf1
    simp only [hb, Ran.andThen_ok]
  | displacement f d hd =>
    obtain ⟨s2, hb, rfl⟩ := fetchByte_of_fetches hf1
    simp only [hb, Ran.andThen_ok, displacementByte_toInt hd]
  | address f addr =>
    obtain ⟨s2, hlo, hf2⟩ := fetchByte_of_fetches hf1
    obtain ⟨s3, hhi, rfl⟩ := fetchByte_of_fetches hf2
    simp only [hlo, hhi, Ran.andThen_ok, wordOf_high_low]

/-! ### RAM outside the byte that is written -/

section
variable {m : MemMode} {s t : State}

theorem KeepsRamBut.write8 (addr : Word) (v : Byte) (s : State) :
    KeepsRamBut [addr] s (Machine.write8 addr v s) := by
  intro off hoff
  rcases write8_cases addr v s with ⟨ea, htarget, h⟩ | ⟨-, e, h⟩ <;> rw [h]
  · have hne : off ≠ ea := by
      rintro rfl
      exact hoff addr (List.mem_singleton_self _) htarget
    exact Memory.get_set_other _ v hne
  · rfl

theorem storeByte_keepsRamBut {v : Byte} (h : storeByte m v s = .next t) :
    KeepsRamBut [effectiveAddress s m] s t := by
  obtain ⟨ea, s1, s2, hr, hl, rfl⟩ := storeByte_eq_next h
  cases (resolve_eq m s).symm.trans hr
  exact (KeepsRamBut.ofRamEq (es := []) (ram_of_onlyLogs hl)).trans (.write8 _ v s2)

theorem modifyMemory_keepsRamBut {op : ByteOp} (h : modifyMemory op m s = .next t) :
    KeepsRamBut [effectiveAddress s m] s t := by
  obtain ⟨ea, s1, v, s2, hr, -, hl, rfl⟩ := modifyMemory_eq_next h
  cases (resolve_eq m s).symm.trans hr
  have hram : (s2.setP (op v s2.p).2).ram = s.ram := by rw [State.setP_ram, ram_of_onlyLogs hl]
  exact (KeepsRamBut.ofRamEq (es := []) hram).trans (.write8 _ _ _)

/-- Every form of a store or a read-modify-write keeps RAM but for its effective address (R117, R118). -/
theorem exec_form_keepsRamBut {form : MemMode → Option Instr} (hform : form ∈ storers ++ modifiers) {i : Instr}
    (hi : form m = some i) (h : exec i s = .next t) : KeepsRamBut [effectiveAddress s m] s t := by
  rcases List.mem_append.mp hform with hstore | hmodify
  · obtain ⟨reg, hexec⟩ := exec_storer hstore hi
    rw [hexec] at h
    exact storeByte_keepsRamBut h
  · obtain ⟨op, hexec⟩ := exec_modifier hmodify hi
    rw [hexec] at h
    exact modifyMemory_keepsRamBut h

end

/-! ### The obligations -/

/-- Settles O21: zero-page pointers lie in RAM, so no mode's resolve phase stops. -/
theorem effectiveAddresses : Obligations.EffectiveAddresses := fun s m => resolve_eq m s

/-- Settles O47: the resolved address is the effective address, and no other RAM byte is written. -/
theorem memoryFrameOfStoring : Obligations.MemoryFrameOfStoring := by
  intro form hform m i s s1 t ea addr hi hr h haddr
  cases (resolve_eq m s).symm.trans hr
  have frame := exec_frame h
  exact storedByte_of_keepsRamBut frame.cart frame.params (exec_form_keepsRamBut hform hi h) (by simpa using haddr)

/-- Settles O7: the fetch phase ends at the instruction and the state the bytes lead to, and the step returns
the instruction's cycles with its next state. -/
theorem stepRunsTheDecodedInstruction : Obligations.StepRunsTheDecodedInstruction := by
  intro s t bytes i hfault hdue hdec hfetch
  rw [step_of_not_interruptDue hfault hdue, runInstr, fetchInstr_of_decode hdec hfetch]
  rfl

end Sys2Proof.Machine
end

section
/-! PROOF. What an instruction with a readable operand does, and the encoding tables of the instruction rules
(40_pipeline_addressing.md R103, R104, R118, R122). -/

namespace Sys2Proof.Machine

open Sys2Proof.Spec

/-! ### An operand that the bus can read -/

section
variable {s : State} {v : Byte}

theorem readTarget_of_some {m : MemMode} (h : operandValue s (.memory m) = some v) :
    readTarget m s = .ok (effectiveAddress s m, v) { s with log := operandLog s (.memory m) v } := by
  rw [readTarget, resolve_eq, Ran.andThen_ok, read8_of_some h]
  rfl

theorem operandRead_of_some {o : Operand} (h : operandValue s o = some v) :
    operandRead o s = .ok v { s with log := operandLog s o v } := by
  cases o with
  | immediate b => cases h; rfl
  | memory m => rw [operandRead, readTarget_of_some h, Ran.andThen_ok]

theorem withOperand_of_some {o : Operand} (k : Byte → State → State) (h : operandValue s o = some v) :
    withOperand o k s = .next (k v { s with log := operandLog s o v }) := by
  rw [withOperand, operandRead_of_some h, Ran.finish_ok]

theorem modifyMemory_of_some {m : MemMode} (op : ByteOp) (h : operandValue s (.memory m) = some v) :
    modifyMemory op m s = .next (write8 (effectiveAddress s m) (op v s.p).1
      { s with p := (op v s.p).2, log := operandLog s (.memory m) v }) := by
  rw [modifyMemory, readTarget_of_some h]
  rfl

end

/-! ### Encoding tables -/

theorem operands_of_operandReader {form : Operand → Option Instr} (hform : form ∈ operandReaders) {o : Operand}
    {i : Instr} (hi : form o = some i) : i.row.operands = operandStream o := by
  simp only [operandReaders, List.mem_cons, List.not_mem_nil, or_false] at hform
  rcases hform with rfl | rfl | rfl | rfl | rfl | rfl | rfl | rfl | rfl | rfl | rfl | rfl
  all_goals
    cases o with
    | immediate b => cases hi <;> rfl
    | memory m => cases m <;> cases hi <;>
        simp only [Instr.row, operandStream, addressBytes, lowOf_eq_lowByte, highOf_eq_highByte]

theorem operands_of_memoryForm {form : MemMode → Option Instr} (hform : form ∈ storers ++ modifiers) {o : Operand}
    {i : Instr} (hi : ofMemory form o = some i) : i.row.operands = operandStream o := by
  simp only [storers, modifiers, List.mem_append, List.mem_cons, List.not_mem_nil, or_false, or_assoc] at hform
  cases o with
  | immediate b => cases hi
  | memory m =>
    rcases hform with rfl | rfl | rfl | rfl | rfl | rfl | rfl | rfl | rfl
    all_goals cases m <;> cases hi <;>
      simp only [Instr.row, operandStream, addressBytes, lowOf_eq_lowByte, highOf_eq_highByte]

/-- The encoder's row of an instruction as a row of its rule's table. -/
def encodingRow (i : Instr) : EncodingRow := (i.mode, i.opcode, i.cycles)

/-- A table in which looking up an operand's mode gives the row of the form with that operand, and nothing
where there is no form, is the mnemonic's. -/
theorem encodingTable_of_find? {form : Operand → Option Instr} {rows : List EncodingRow}
    (hfind : ∀ o, rows.find? (fun r => r.1 = operandMode o) = (form o).map encodingRow)
    (hoperands : ∀ {o i}, form o = some i → i.row.operands = operandStream o) : EncodingTable form rows := by
  refine fun o => ⟨fun i hi => ?_, fun hnone r hr => ?_⟩
  · have hrow : rows.find? (fun r => r.1 = operandMode o) = some (encodingRow i) := by rw [hfind, hi]; rfl
    exact ⟨encodingRow i, List.mem_of_find?_eq_some hrow, by simpa using List.find?_some hrow, rfl,
      congrArg (i.opcode :: ·) (hoperands hi), rfl⟩
  · have hno : rows.find? (fun r => r.1 = operandMode o) = none := by rw [hfind, hnone]; rfl
    simpa using List.find?_eq_none.mp hno r hr

/-! ### The two shapes of a result -/

theorem operandResult_of_exec {form : Operand → Option Instr} {rows : List EncodingRow}
    {k change : Byte → State → State} (htable : EncodingTable form rows)
    (hexec : ∀ {o i}, form o = some i → exec i = withOperand o k) (hchange : ∀ v s, k v s = change v s) :
    OperandResult form rows change :=
  ⟨htable, fun _ _ _ _ hi hv => by rw [hexec hi, withOperand_of_some k hv, hchange]⟩

theorem modifyResult_of_exec {form : MemMode → Option Instr} {rows : List EncodingRow} {op : ByteOp}
    (htable : EncodingTable (ofMemory form) rows)
    (hexec : ∀ {m i}, form m = some i → exec i = modifyMemory op m) : ModifyResult form rows op :=
  ⟨htable, fun _ _ _ _ hi hv => by rw [hexec hi, modifyMemory_of_some op hv]⟩

end Sys2Proof.Machine
end

section
/-! PROOF. Sums, differences, increments and decrements (41_arithmetic.md R130 to R138). -/

namespace Sys2Proof.Machine

open Sys2Proof.Spec

/-! ### The exact sums -/

theorem ofNat_mod_256 (n : Nat) : BitVec.ofNat 8 (n % 256) = BitVec.ofNat 8 n :=
  BitVec.eq_of_toNat_eq (Nat.mod_mod n 256)

theorem toNat_complement (m : Byte) : (~~~m).toNat = 255 - m.toNat := BitVec.toNat_not

theorem exactSum_eq_adcSum (s : State) (m : Byte) : exactSum s.a m s.p.c = adcSum s m := by
  cases hc : s.p.c <;> simp [exactSum, adcSum, carry, hc]

theorem exactSum_eq_sbcSum (s : State) (m : Byte) : exactSum s.a (~~~m) s.p.c = sbcSum s m := by
  cases hc : s.p.c <;> simp [exactSum, sbcSum, carry, hc]

/-! ### ADC and SBC -/

/-- What ADC does to A and P (R131). -/
theorem adc_change (m : Byte) (s : State) :
    (s.setA (addWithCarry s.a m s.p.c).value).setP (s.p.afterSum (addWithCarry s.a m s.p.c)) =
      let r : Byte := BitVec.ofNat 8 (adcSum s m % 256)
      sumInto (adcSum s m) (decide (((s.a ^^^ r) &&& (m ^^^ r) &&& 0x80) ≠ 0)) s := by
  simp only [addWithCarry, exactSum_eq_adcSum, sumInto, ofNat_mod_256]
  rfl

/-- What SBC does to A and P (R132). -/
theorem sbc_change (m : Byte) (s : State) :
    (s.setA (subWithBorrow s.a m s.p.c).value).setP (s.p.afterSum (subWithBorrow s.a m s.p.c)) =
      let r : Byte := BitVec.ofNat 8 (sbcSum s m % 256)
      sumInto (sbcSum s m) (decide (((s.a ^^^ r) &&& (s.a ^^^ m) &&& 0x80) ≠ 0)) s := by
  simp only [subWithBorrow, exactSum_eq_sbcSum, sumInto, ofNat_mod_256]
  rfl

theorem exec_adcForm {o : Operand} {i : Instr} (hi : adcForm o = some i) : exec i = adc o := by
  cases o with
  | immediate b => cases hi; rfl
  | memory m => cases m <;> cases hi <;> rfl

theorem exec_sbcForm {o : Operand} {i : Instr} (hi : sbcForm o = some i) : exec i = sbc o := by
  cases o with
  | immediate b => cases hi; rfl
  | memory m => cases m <;> cases hi <;> rfl

theorem adc_encodingTable : EncodingTable adcForm adcRows := by
  refine encodingTable_of_find? (fun o => ?_) (operands_of_operandReader (by simp [operandReaders]))
  cases o with
  | immediate b => rfl
  | memory m => cases m <;> rfl

theorem sbc_encodingTable : EncodingTable sbcForm sbcRows := by
  refine encodingTable_of_find? (fun o => ?_) (operands_of_operandReader (by simp [operandReaders]))
  cases o with
  | immediate b => rfl
  | memory m => cases m <;> rfl

/-! ### Increments and decrements -/

theorem incOp_eq_incSpec : incOp = incSpec := by
  have hval (v : Byte) : v + 1 = BitVec.ofNat 8 ((v.toNat + 1) % 256) := by
    rw [ofNat_mod_256]
    bv_omega
  funext v p
  rw [incOp, incSpec, hval]
  rfl

theorem decOp_eq_decSpec : decOp = decSpec := by
  have hval (v : Byte) : v - 1 = BitVec.ofNat 8 ((v.toNat + 255) % 256) := by
    rw [ofNat_mod_256]
    bv_omega
  funext v p
  rw [decOp, decSpec, hval]
  rfl

theorem exec_incForm {m : MemMode} {i : Instr} (hi : incForm m = some i) : exec i = modifyMemory incOp m := by
  cases m <;> cases hi <;> rfl

theorem exec_decForm {m : MemMode} {i : Instr} (hi : decForm m = some i) : exec i = modifyMemory decOp m := by
  cases m <;> cases hi <;> rfl

theorem inc_encodingTable : EncodingTable (ofMemory incForm) incRows := by
  refine encodingTable_of_find? (fun o => ?_) (operands_of_memoryForm (by simp [modifiers]))
  cases o with
  | immediate b => rfl
  | memory m => cases m <;> rfl

theorem dec_encodingTable : EncodingTable (ofMemory decForm) decRows := by
  refine encodingTable_of_find? (fun o => ?_) (operands_of_memoryForm (by simp [modifiers]))
  cases o with
  | immediate b => rfl
  | memory m => cases m <;> rfl

/-! ### Overflow and borrow -/

theorem and_0x80_ne_zero_iff (x : Byte) : x &&& 0x80 ≠ 0 ↔ x.msb = true := by
  revert x
  decide

/-- SBC is ADC of the complement: where A and `M` differ, the sign bit of the complement is A's (R132). -/
theorem subWithBorrow_eq_addWithCarry (a m : Byte) (c : Bool) :
    subWithBorrow a m c = addWithCarry a (~~~m) c := by
  have hbits (r : Byte) : (a ^^^ r) &&& (a ^^^ m) = (a ^^^ r) &&& (~~~m ^^^ r) := by
    ext i hi
    cases ha : a[i] <;> cases hm : m[i] <;> cases hr : r[i] <;> simp [ha, hm, hr]
  simp only [subWithBorrow, addWithCarry, hbits]

theorem toInt_cases (b : Byte) :
    b.toNat < 128 ∧ b.toInt = b.toNat ∨ 128 ≤ b.toNat ∧ b.toInt = b.toNat - 256 := by
  rw [BitVec.toInt_eq_toNat_cond]
  split <;> omega

theorem toInt_complement (m : Byte) : (~~~m).toInt = -m.toInt - 1 := by
  have hm : m.toNat < 256 := m.isLt
  have hcomplement := toInt_cases (~~~m)
  rw [toNat_complement] at hcomplement
  have hsign := toInt_cases m
  omega

/-- The formula of R131 compares the sign bits of the inputs with the result's. -/
theorem addWithCarry_overflow_iff_signs (a m : Byte) (c : Bool) :
    (addWithCarry a m c).overflow = true ↔
      (128 ≤ a.toNat ↔ exactSum a m c % 256 < 128) ∧ (128 ≤ m.toNat ↔ exactSum a m c % 256 < 128) := by
  have hr : (BitVec.ofNat 8 (exactSum a m c)).toNat = exactSum a m c % 256 := BitVec.toNat_ofNat ..
  rw [addWithCarry, decide_eq_true_eq, and_0x80_ne_zero_iff, BitVec.msb_and, BitVec.msb_xor, BitVec.msb_xor,
    Bool.and_eq_true, bne_iff_ne, bne_iff_ne]
  simp only [BitVec.msb_eq_decide, hr, ne_eq, decide_eq_decide]
  omega

theorem addWithCarry_overflow_iff (a m : Byte) (c : Bool) :
    (addWithCarry a m c).overflow = true ↔
      a.toInt + m.toInt + (if c then 1 else 0) < -128 ∨ 127 < a.toInt + m.toInt + (if c then 1 else 0) := by
  have ha : a.toNat < 256 := a.isLt
  have hm : m.toNat < 256 := m.isLt
  have hsigna := toInt_cases a
  have hsignm := toInt_cases m
  rw [addWithCarry_overflow_iff_signs, exactSum]
  cases c <;> simp <;> omega

theorem subWithBorrow_overflow_iff (a m : Byte) (c : Bool) :
    (subWithBorrow a m c).overflow = true ↔
      a.toInt - m.toInt - (if c then 0 else 1) < -128 ∨ 127 < a.toInt - m.toInt - (if c then 0 else 1) := by
  rw [subWithBorrow_eq_addWithCarry, addWithCarry_overflow_iff, toInt_complement]
  cases c <;> simp <;> omega

theorem subWithBorrow_carry_iff (a m : Byte) (c : Bool) :
    (subWithBorrow a m c).carry = true ↔ m.toNat + (if c then 0 else 1) ≤ a.toNat := by
  have hm : m.toNat < 256 := m.isLt
  rw [subWithBorrow, decide_eq_true_eq, exactSum, toNat_complement]
  cases c <;> simp <;> omega

theorem subWithBorrow_value (a m : Byte) (c : Bool) :
    (subWithBorrow a m c).value =
      BitVec.ofInt 8 ((a.toNat : Int) - (m.toNat : Int) - (if c then 0 else 1)) := by
  have hm : m.toNat < 256 := m.isLt
  apply BitVec.eq_of_toNat_eq
  rw [subWithBorrow, BitVec.toNat_ofNat, BitVec.toNat_ofInt, exactSum, toNat_complement]
  cases c <;> simp <;> omega

/-! ### The obligations -/

/-- Settles O26: every form is ADC over its operand, and the exact sum is the rule's. -/
theorem adcResult : Obligations.AdcResult :=
  operandResult_of_exec adc_encodingTable exec_adcForm adc_change

/-- Settles O27: every form is SBC over its operand, and the exact sum is the rule's. -/
theorem sbcResult : Obligations.SbcResult :=
  operandResult_of_exec sbc_encodingTable exec_sbcForm sbc_change

/-- Settles O28: SBC's sum is ADC's with the complement, which is `-M - 1` signed and `255 - M` unsigned. -/
theorem overflowAndBorrowMeaning : Obligations.OverflowAndBorrowMeaning := fun a m c =>
  ⟨addWithCarry_overflow_iff a m c, subWithBorrow_overflow_iff a m c, subWithBorrow_carry_iff a m c,
    subWithBorrow_value a m c⟩

/-- Settles O31: the rules' operations are the model's, in memory and on the index registers alike. -/
theorem incrementAndDecrementResults : Obligations.IncrementAndDecrementResults := by
  rw [Obligations.IncrementAndDecrementResults, ← incOp_eq_incSpec, ← decOp_eq_decSpec]
  have hinc := modifyResult_of_exec inc_encodingTable exec_incForm
  have hdec := modifyResult_of_exec dec_encodingTable exec_decForm
  exact ⟨hinc, hdec, ⟨⟨rfl, rfl, rfl⟩, fun _ => rfl⟩, ⟨⟨rfl, rfl, rfl⟩, fun _ => rfl⟩,
    ⟨⟨rfl, rfl, rfl⟩, fun _ => rfl⟩, ⟨⟨rfl, rfl, rfl⟩, fun _ => rfl⟩⟩

end Sys2Proof.Machine
end

section
/-! PROOF. AND, ORA, EOR, BIT and the compares (42_logic_compare.md R140 to R147). -/

namespace Sys2Proof.Machine

open Sys2Proof.Spec

/-! ### The difference of a compare -/

/-- The difference modulo 256 is the rule's, taken from `r + 256` so that it is not negative (R144). -/
theorem afterCompare_eq_compareSpec (r m : Byte) (p : Status) : p.afterCompare r m = compareSpec r m p := by
  have hdifference : r - m = BitVec.ofNat 8 ((r.toNat + 256 - m.toNat) % 256) := by
    rw [ofNat_mod_256]
    bv_omega
  rw [Status.afterCompare, compareSpec, hdifference]
  rfl

/-! ### The seven mnemonics -/

/-- The mnemonics of 42_logic_compare.md: the forms, the encoding table and the shared operation of each. -/
inductive LogicMnemonic : (Operand → Option Instr) → List EncodingRow →
    (Operand → State → Host.Outcome State Fault Refusal) → Prop
  | and : LogicMnemonic andForm andRows (logicA (· &&& ·))
  | ora : LogicMnemonic oraForm oraRows (logicA (· ||| ·))
  | eor : LogicMnemonic eorForm eorRows (logicA (· ^^^ ·))
  | bit : LogicMnemonic bitForm bitRows bitTest
  | cmp : LogicMnemonic cmpForm cmpRows (compareWith State.a)
  | cpx : LogicMnemonic cpxForm cpxRows (compareWith State.x)
  | cpy : LogicMnemonic cpyForm cpyRows (compareWith State.y)

namespace LogicMnemonic

variable {form : Operand → Option Instr} {rows : List EncodingRow}
  {op : Operand → State → Host.Outcome State Fault Refusal}

theorem exec_form (h : LogicMnemonic form rows op) {o : Operand} {i : Instr} (hi : form o = some i) :
    exec i = op o := by
  cases h
  all_goals
    cases o with
    | immediate b => cases hi <;> rfl
    | memory m => cases m <;> cases hi <;> rfl

theorem form_mem_operandReaders (h : LogicMnemonic form rows op) : form ∈ operandReaders := by
  cases h <;> simp [operandReaders]

theorem find?_operandMode (h : LogicMnemonic form rows op) (o : Operand) :
    rows.find? (fun r => r.1 = operandMode o) = (form o).map encodingRow := by
  cases h
  all_goals
    cases o with
    | immediate b => rfl
    | memory m => cases m <;> rfl

theorem encodingTable (h : LogicMnemonic form rows op) : EncodingTable form rows :=
  encodingTable_of_find? h.find?_operandMode (operands_of_operandReader h.form_mem_operandReaders)

/-! ### Results -/

theorem logicA_result {f : Byte → Byte → Byte} (h : LogicMnemonic form rows (logicA f)) :
    OperandResult form rows fun m s => { s with a := f s.a m, p := setNZ s.p (f s.a m) } :=
  operandResult_of_exec h.encodingTable h.exec_form fun _ _ => rfl

theorem bitTest_result (h : LogicMnemonic form rows bitTest) :
    OperandResult form rows fun m s =>
      { s with p := { s.p with n := m.getLsbD 7, v := m.getLsbD 6, z := decide (s.a &&& m = 0) } } :=
  operandResult_of_exec h.encodingTable h.exec_form fun _ _ => rfl

theorem compareWith_result {reg : State → Byte} (h : LogicMnemonic form rows (compareWith reg)) :
    OperandResult form rows fun m s => { s with p := compareSpec (reg s) m s.p } :=
  operandResult_of_exec h.encodingTable h.exec_form fun m s =>
    congrArg s.setP (afterCompare_eq_compareSpec (reg s) m s.p)

end LogicMnemonic

/-! ### The obligations -/

/-- Settles O29: each form is its mnemonic's shared operation over its operand. -/
theorem logicAndBitResults : Obligations.LogicAndBitResults :=
  ⟨LogicMnemonic.and.logicA_result, LogicMnemonic.ora.logicA_result, LogicMnemonic.eor.logicA_result,
    LogicMnemonic.bit.bitTest_result⟩

/-- Settles O30: each form compares its mnemonic's register, and the difference is the rule's. -/
theorem compareResults : Obligations.CompareResults :=
  ⟨LogicMnemonic.cmp.compareWith_result, LogicMnemonic.cpx.compareWith_result,
    LogicMnemonic.cpy.compareWith_result⟩

end Sys2Proof.Machine
end

section
/-! PROOF. ASL, LSR, ROL and ROR on the accumulator and in memory (43_shift_rotate.md R150 to R154). -/

namespace Sys2Proof.Machine

open Sys2Proof.Spec

/-! ### The shifted bytes as numbers -/

theorem shiftLeft_one_eq_aslResult (m : Byte) : m <<< 1 = aslResult m :=
  BitVec.eq_of_toNat_eq (by simp [aslResult, Nat.shiftLeft_eq])

theorem ushiftRight_one_eq_lsrResult (m : Byte) : m >>> 1 = lsrResult m := by
  have hm : m.toNat < 256 := m.isLt
  apply BitVec.eq_of_toNat_eq
  rw [BitVec.toNat_ushiftRight, Nat.shiftRight_eq_div_pow, lsrResult, BitVec.toNat_ofNat]
  omega

/-- Bit 0 of a byte shifted left is free, so joining the carry there adds it (R153). -/
theorem shiftLeft_one_or_carry_eq_rolResult (m : Byte) (c : Bool) : m <<< 1 ||| flagBit c = rolResult m c := by
  have hdisjoint : m <<< 1 &&& flagBit c = 0#8 := by
    ext k hk
    cases k with
    | zero => simp
    | succ j => cases c <;> simp [flagBit, BitVec.getElem_one]
  rw [← BitVec.add_eq_or_of_and_eq_zero _ _ hdisjoint, shiftLeft_one_eq_aslResult, aslResult, rolResult,
    ofNat_mod_256, ofNat_mod_256, BitVec.ofNat_add]
  cases c <;> rfl

/-- Bit 7 of a byte shifted right is free, so joining the carry there adds 128 (R154). -/
theorem ushiftRight_one_or_carry_eq_rorResult (m : Byte) (c : Bool) :
    m >>> 1 ||| flagBit c <<< 7 = rorResult m c := by
  have hdisjoint : m >>> 1 &&& flagBit c <<< 7 = 0#8 := by
    ext k hk
    rcases Nat.lt_or_ge k 7 with hlow | htop
    · simp [hlow]
    · simp [BitVec.getLsbD_of_ge m (1 + k) (by omega)]
  rw [← BitVec.add_eq_or_of_and_eq_zero _ _ hdisjoint, ushiftRight_one_eq_lsrResult, lsrResult, rorResult,
    BitVec.ofNat_add]
  cases c <;> rfl

/-! ### The model's operations are the rules' -/

theorem aslOp_eq_aslSpec : aslOp = aslSpec := by
  funext m p
  rw [aslOp, aslSpec, shiftLeft_one_eq_aslResult]
  rfl

theorem lsrOp_eq_lsrSpec : lsrOp = lsrSpec := by
  funext m p
  rw [lsrOp, lsrSpec, ushiftRight_one_eq_lsrResult]
  rfl

theorem rolOp_eq_rolSpec : rolOp = rolSpec := by
  funext m p
  rw [rolOp, rolSpec, shiftLeft_one_or_carry_eq_rolResult]
  rfl

theorem rorOp_eq_rorSpec : rorOp = rorSpec := by
  funext m p
  rw [rorOp, rorSpec, ushiftRight_one_or_carry_eq_rorResult]
  rfl

/-! ### The four mnemonics -/

/-- The mnemonics of 43_shift_rotate.md: the Accumulator form and its opcode, the memory forms, their encoding
table and the shared operation of each. -/
inductive ShiftMnemonic : Instr → Byte → (MemMode → Option Instr) → List EncodingRow → ByteOp → Prop
  | asl : ShiftMnemonic .aslAcc 0x0A aslForm aslRows aslOp
  | lsr : ShiftMnemonic .lsrAcc 0x4A lsrForm lsrRows lsrOp
  | rol : ShiftMnemonic .rolAcc 0x2A rolForm rolRows rolOp
  | ror : ShiftMnemonic .rorAcc 0x6A rorForm rorRows rorOp

namespace ShiftMnemonic

variable {acc : Instr} {opcode : Byte} {form : MemMode → Option Instr} {rows : List EncodingRow} {op : ByteOp}

theorem exec_form (h : ShiftMnemonic acc opcode form rows op) {m : MemMode} {i : Instr} (hi : form m = some i) :
    exec i = modifyMemory op m := by
  cases h
  all_goals cases m <;> cases hi <;> rfl

theorem form_mem_modifiers (h : ShiftMnemonic acc opcode form rows op) : form ∈ modifiers := by
  cases h <;> simp [modifiers]

theorem find?_operandMode (h : ShiftMnemonic acc opcode form rows op) (o : Operand) :
    rows.find? (fun r => r.1 = operandMode o) = (ofMemory form o).map encodingRow := by
  cases h
  all_goals
    cases o with
    | immediate b => rfl
    | memory m => cases m <;> rfl

theorem encodingTable (h : ShiftMnemonic acc opcode form rows op) : EncodingTable (ofMemory form) rows :=
  encodingTable_of_find? h.find?_operandMode
    (operands_of_memoryForm (List.mem_append_right storers h.form_mem_modifiers))

theorem modifyResult (h : ShiftMnemonic acc opcode form rows op) : ModifyResult form rows op :=
  modifyResult_of_exec h.encodingTable h.exec_form

theorem accumulatorResult (h : ShiftMnemonic acc opcode form rows op) : AccumulatorResult acc opcode op := by
  cases h <;> exact ⟨⟨rfl, rfl, rfl⟩, fun _ => rfl⟩

end ShiftMnemonic

/-! ### The obligation -/

/-- Settles O32: each form is its mnemonic's operation on A or on the effective address, and the operation is
the rule's. -/
theorem shiftAndRotateResults : Obligations.ShiftAndRotateResults := by
  rw [Obligations.ShiftAndRotateResults, ← aslOp_eq_aslSpec, ← lsrOp_eq_lsrSpec, ← rolOp_eq_rolSpec,
    ← rorOp_eq_rorSpec]
  exact ⟨⟨ShiftMnemonic.asl.accumulatorResult, ShiftMnemonic.asl.modifyResult⟩,
    ⟨ShiftMnemonic.lsr.accumulatorResult, ShiftMnemonic.lsr.modifyResult⟩,
    ⟨ShiftMnemonic.rol.accumulatorResult, ShiftMnemonic.rol.modifyResult⟩,
    ⟨ShiftMnemonic.ror.accumulatorResult, ShiftMnemonic.ror.modifyResult⟩⟩

end Sys2Proof.Machine
end

section
/-! PROOF. The eight conditional branches (44_branch.md R155 to R163). -/

namespace Sys2Proof.Machine

open Sys2Proof.Spec

/-! ### The common branch -/

/-- Adding the displacement's word, which wraps at 0x10000, is adding the displacement modulo 65536 (R155). -/
theorem pc_add_displacementWord (s : State) (d : Int) : s.pc + displacementWord d = branchTarget s d := by
  rw [branchTarget, BitVec.ofInt_add, BitVec.ofInt_natCast, BitVec.ofNat_toNat, BitVec.setWidth_eq]
  rfl

theorem branchIf_eq (cond : Bool) (d : Int) (s : State) :
    branchIf cond d s = .next { s with pc := if cond then branchTarget s d else s.pc } := by
  rw [branchIf, pc_add_displacementWord]
  cases cond with
  | false => rfl
  | true => rfl

/-- A mnemonic whose meaning is the common branch on `cond` has the result R155 gives it. -/
theorem branchResult_of_exec {branch : Int → Instr} {opcode : Byte} {cond : Status → Bool}
    (hencoded : ∀ d, Encoded (branch d) .relative opcode 2 [displacementByte d])
    (hexec : ∀ d s, exec (branch d) s = branchIf (cond s.p) d s) : BranchResult branch opcode cond :=
  fun d s _ _ => ⟨hencoded d, (hexec d s).trans (branchIf_eq (cond s.p) d s)⟩

/-! ### The obligation -/

/-- Settles O33: each mnemonic's row is its rule's encoding, and its meaning is the common branch on the flag
or the complement its rule names. -/
theorem branchResults : Obligations.BranchResults := by
  refine ⟨?bcc, ?bcs, ?beq, ?bne, ?bmi, ?bpl, ?bvc, ?bvs⟩
  all_goals exact branchResult_of_exec (fun _ => ⟨rfl, rfl, rfl⟩) fun _ _ => rfl

end Sys2Proof.Machine
end

section
/-! PROOF. Loads, stores and register transfers (45_load_store_transfer.md R165 to R176). -/

namespace Sys2Proof.Machine

open Sys2Proof.Spec

/-! ### The loads -/

/-- LDA, LDX and LDY: the forms, the encoding table and the destination register of each. -/
inductive LoadMnemonic : (Operand → Option Instr) → List EncodingRow → (State → Byte → State) → Prop
  | lda : LoadMnemonic ldaForm ldaRows State.setA
  | ldx : LoadMnemonic ldxForm ldxRows State.setX
  | ldy : LoadMnemonic ldyForm ldyRows State.setY

namespace LoadMnemonic

variable {form : Operand → Option Instr} {rows : List EncodingRow} {set : State → Byte → State}

theorem exec_form (h : LoadMnemonic form rows set) {o : Operand} {i : Instr} (hi : form o = some i) :
    exec i = loadInto set o := by
  cases h
  all_goals
    cases o with
    | immediate b => cases hi; rfl
    | memory m => cases m <;> cases hi <;> rfl

theorem form_mem_operandReaders (h : LoadMnemonic form rows set) : form ∈ operandReaders := by
  cases h <;> simp [operandReaders]

theorem find?_operandMode (h : LoadMnemonic form rows set) (o : Operand) :
    rows.find? (fun r => r.1 = operandMode o) = (form o).map encodingRow := by
  cases h
  all_goals
    cases o with
    | immediate b => rfl
    | memory m => cases m <;> rfl

theorem encodingTable (h : LoadMnemonic form rows set) : EncodingTable form rows :=
  encodingTable_of_find? h.find?_operandMode (operands_of_operandReader h.form_mem_operandReaders)

theorem operandResult (h : LoadMnemonic form rows set) :
    OperandResult form rows fun v s => (set s v).setNZ v :=
  operandResult_of_exec h.encodingTable h.exec_form fun _ _ => rfl

end LoadMnemonic

/-! ### The stores -/

section
variable {m : MemMode} {s : State}

/-- With `P_STORE_READS` the target is read and logged before the write, and its value is unused (R168). -/
theorem storeByte_of_some {v : Byte} (w : Byte) (hr : s.params.storeReads = true)
    (h : operandValue s (.memory m) = some v) :
    storeByte m w s = .next (write8 (effectiveAddress s m) w { s with log := operandLog s (.memory m) v }) := by
  have hr' : (afterResolve s m).params.storeReads = true := hr
  rw [storeByte, resolve_eq, Ran.andThen_ok, if_pos hr', read8_of_some h]
  rfl

theorem storeByte_of_not_storeReads (w : Byte) (hr : s.params.storeReads = false) :
    storeByte m w s = .next (write8 (effectiveAddress s m) w (afterResolve s m)) := by
  have hr' : (afterResolve s m).params.storeReads = false := hr
  rw [storeByte, resolve_eq, Ran.andThen_ok, hr', if_neg Bool.false_ne_true, Ran.finish_ok]

end

/-- STA, STX and STY: the forms, the encoding table and the source register of each. -/
inductive StoreMnemonic : (MemMode → Option Instr) → List EncodingRow → (State → Byte) → Prop
  | sta : StoreMnemonic staForm staRows State.a
  | stx : StoreMnemonic stxForm stxRows State.x
  | sty : StoreMnemonic styForm styRows State.y

namespace StoreMnemonic

variable {form : MemMode → Option Instr} {rows : List EncodingRow} {reg : State → Byte}

theorem exec_form (h : StoreMnemonic form rows reg) {m : MemMode} {i : Instr} (hi : form m = some i)
    (s : State) : exec i s = storeByte m (reg s) s := by
  cases h
  all_goals cases m <;> cases hi <;> rfl

theorem form_mem_storers (h : StoreMnemonic form rows reg) : form ∈ storers := by
  cases h <;> simp [storers]

theorem find?_operandMode (h : StoreMnemonic form rows reg) (o : Operand) :
    rows.find? (fun r => r.1 = operandMode o) = (ofMemory form o).map encodingRow := by
  cases h
  all_goals
    cases o with
    | immediate b => rfl
    | memory m => cases m <;> rfl

theorem encodingTable (h : StoreMnemonic form rows reg) : EncodingTable (ofMemory form) rows :=
  encodingTable_of_find? h.find?_operandMode
    (operands_of_memoryForm (List.mem_append_left modifiers h.form_mem_storers))

theorem storeResult (h : StoreMnemonic form rows reg) : StoreResult form rows reg := by
  refine ⟨h.encodingTable, fun m i s hi => ⟨fun hr v hv => ?_, fun hr => ?_⟩⟩
  · rw [h.exec_form hi, storeByte_of_some (reg s) hr hv]
  · rw [h.exec_form hi, storeByte_of_not_storeReads (reg s) hr]

end StoreMnemonic

/-! ### The obligations -/

/-- Settles O23: each form loads its mnemonic's register from its operand. -/
theorem loadResults : Obligations.LoadResults :=
  ⟨LoadMnemonic.lda.operandResult, LoadMnemonic.ldx.operandResult, LoadMnemonic.ldy.operandResult⟩

/-- Settles O24: each form stores its mnemonic's register, with the discarded read or without it. -/
theorem storeResults : Obligations.StoreResults :=
  ⟨StoreMnemonic.sta.storeResult, StoreMnemonic.stx.storeResult, StoreMnemonic.sty.storeResult⟩

/-- Settles O25: each transfer is one register update and, but for TXS, the update of N and Z. -/
theorem transferResults : Obligations.TransferResults := by
  refine ⟨?tax, ?tay, ?txa, ?tya, ?tsx, ?txs⟩
  all_goals exact ⟨⟨rfl, rfl, rfl⟩, fun _ => rfl⟩

end Sys2Proof.Machine
end

section
/-! PROOF. PHA, PHP, PLA and PLP (46_stack.md R181 to R184). -/

namespace Sys2Proof.Machine

open Sys2Proof.Spec

/-! ### The status byte of a pull -/

@[simp] theorem Status.toByte_getElem_four (p : Status) : p.toByte[4] = p.b :=
  congrArg Status.b (Status.ofByte_toByte p)

@[simp] theorem Status.toByte_getElem_five (p : Status) : p.toByte[5] = p.u :=
  congrArg Status.u (Status.ofByte_toByte p)

/-- The merged byte holds the flags of the pulled status: each of its bits comes from the pulled byte or, for
B and U, from P (R184). -/
theorem ofByte_merged_eq_pulledStatus (p : Status) (w : Byte) :
    Status.ofByte ((w &&& 0xCF) ||| (p.toByte &&& 0x30)) = pulledStatus p w := by
  simp [Status.ofByte, pulledStatus]

theorem pulledStatus_toByte (p : Status) (w : Byte) :
    (pulledStatus p w).toByte = (w &&& 0xCF) ||| (p.toByte &&& 0x30) := by
  rw [← ofByte_merged_eq_pulledStatus, Status.toByte_ofByte]

/-! ### The four meanings -/

theorem exec_pha (s : State) : exec .pha s = .next (pushed s.a s) :=
  congrArg _ (push_eq_pushed s.a s)

theorem exec_php (s : State) : exec .php s = .next (pushed (s.p.toByte ||| 0x30) s) :=
  congrArg _ (push_eq_pushed s.p.pushedByBrk s)

theorem exec_pla (s : State) : exec .pla s = .next { s with
    sp := s.sp + 1, a := pullByte s 1, p := setNZ s.p (pullByte s 1), log := pullEvent s 1 :: s.log } := by
  rw [exec, execPla, pull_eq_pullByte, Ran.finish_ok]
  rfl

theorem exec_plp (s : State) : exec .plp s = .next { s with
    sp := s.sp + 1, p := pulledStatus s.p (pullByte s 1), log := pullEvent s 1 :: s.log } := by
  rw [exec, execPlp, pull_eq_pullByte, Ran.finish_ok]
  rfl

/-! ### The obligations -/

/-- Settles O34: each is one push, and PHP's byte is P with bits 4 and 5 set. -/
theorem pushInstructionResults : Obligations.PushInstructionResults :=
  ⟨⟨⟨rfl, rfl, rfl⟩, exec_pha⟩, ⟨⟨rfl, rfl, rfl⟩, exec_php⟩⟩

/-- Settles O35: each is one pull and the register it fills; PLP's byte formula is read off bit by bit. -/
theorem pullInstructionResults : Obligations.PullInstructionResults :=
  ⟨⟨⟨rfl, rfl, rfl⟩, exec_pla⟩, ⟨⟨rfl, rfl, rfl⟩, exec_plp⟩, pulledStatus_toByte⟩

end Sys2Proof.Machine
end

section
/-! PROOF. JMP, JSR, RTS, BRK and RTI (47_control_flow.md R187 to R192). -/

namespace Sys2Proof.Machine

open Sys2Proof.Spec

/-- The encoder's operand bytes of an address are the rules', low byte first (20_memory.md R52). -/
theorem addressBytes_eq_lowOf_highOf (addr : Word) : addressBytes addr = [lowOf addr, highOf addr] := by
  rw [addressBytes, lowOf_eq_lowByte, highOf_eq_highByte]

/-! ### JMP's pointer (40_pipeline_addressing.md R113) -/

/-- Masking takes the high byte of one word and the low byte of another. -/
theorem and_masks_eq_wordOf (w v : Word) : (w &&& 0xFF00) ||| (v &&& 0x00FF) = wordOf (highByte w) (lowByte v) := by
  ext i hi
  interval_cases i <;> simp [wordOf, zext, highByte, lowByte]

theorem jmpPointerHigh_eq_jmpHigh (s : State) (ptr : Word) : jmpPointerHigh s.params ptr = jmpHigh s ptr := by
  have hptr : ptr.toNat < 65536 := ptr.isLt
  rw [jmpPointerHigh, jmpHigh]
  split
  case isTrue =>
    have hone : (1 : Word).toNat = 1 := rfl
    apply BitVec.eq_of_toNat_eq
    rw [and_masks_eq_wordOf, wordOf_toNat, highByte_toNat, lowByte_toNat, BitVec.toNat_ofNat, BitVec.toNat_add, hone]
    omega
  case isFalse => exact BitVec.eq_of_toNat_eq (by simp [BitVec.toNat_add])

section
variable {lowAddr highAddr : Word} {s : State}

theorem readPair_of_low_missing (h : s.busRead lowAddr = none) :
    readPair lowAddr highAddr s = .stop (.missingPrgBank lowAddr) s := by
  rw [readPair, read8_of_none h, Ran.andThen_stop]

theorem readPair_of_high_missing {lo : Byte} (hlo : s.busRead lowAddr = some lo)
    (hhi : (afterRead s lowAddr lo).busRead highAddr = none) :
    readPair lowAddr highAddr s = .stop (.missingPrgBank highAddr) (afterRead s lowAddr lo) := by
  rw [readPair, read8_of_some hlo, Ran.andThen_ok]
  exact congrArg (Ran.andThen · _) (read8_of_none hhi)

end

theorem exec_jmpInd (addr : Word) (s : State) :
    exec (.jmpInd addr) s = (readPair addr (jmpHigh s addr) s).finish fun target s1 => s1.setPc target := by
  rw [exec, execJmpInd, resolveIndirect, jmpPointerHigh_eq_jmpHigh]

/-! ### Subroutines and the return from a trap -/

theorem exec_jsr (addr : Word) (s : State) : exec (.jsr addr) s =
    .next { pushed (lowOf (s.pc - 1)) (pushed (highOf (s.pc - 1)) s) with pc := addr } := by
  rw [exec, execJsr, push16_eq_pushed]
  rfl

theorem exec_rts (s : State) : exec .rts s = .next { s with
    sp := s.sp + 2, pc := word (pullByte s 2) (pullByte s 1) + 1, log := pullEvent s 2 :: pullEvent s 1 :: s.log } := by
  rw [exec, execRts, pull16_eq_pullByte, Ran.finish_ok]
  rfl

theorem exec_rti (s : State) : exec .rti s = .next { s with
    sp := s.sp + 3
    p := pulledStatus s.p (pullByte s 1)
    pc := word (pullByte s 3) (pullByte s 2)
    log := pullEvent s 3 :: pullEvent s 2 :: pullEvent s 1 :: s.log } := by
  have h2 : s.sp + 1 + 1 = s.sp + 2 := BitVec.add_assoc ..
  have h3 : s.sp + 2 + 1 = s.sp + 3 := BitVec.add_assoc ..
  rw [exec, execRti, returnFromTrap_eq, Ran.finish_ok, h2, h3, ← word_eq_wordOf]
  simp only [pullEvent, stackAddress_eq_stackAddr]
  rfl

/-! ### Taking a trap (60_exceptions.md R212, R215) -/

section
variable {off : Nat}

theorem busTarget_vector (hoff : off < 0x4000) : busTarget (BitVec.ofNat 16 (0xC000 + off)) = .prg 1 off := by
  have haddr : (BitVec.ofNat 16 (0xC000 + off)).toNat = 0xC000 + off := by
    rw [BitVec.toNat_ofNat, Nat.mod_eq_of_lt (by omega)]
  rw [busTarget_prgRom (by omega), haddr, if_neg (by omega)]
  congr 1
  omega

/-- A trap's three pushes and P.I, before the vector is read. -/
theorem enterTrap_eq_readWord (ret : Word) (status : Byte) (vector : Word) (s : State) :
    enterTrap ret status vector s =
      (readWord vector (trapPushed ret status s)).andThen fun target s1 => .ok () (s1.setPc target) := by
  rw [enterTrap, push16_eq_pushed, push_eq_pushed]
  rfl

theorem enterTrap_of_bank (ret : Word) (status : Byte) {bank : Memory} {s : State} (hoff : off + 1 < 0x4000)
    (hb : s.mappedBank 1 = some bank) :
    enterTrap ret status (BitVec.ofNat 16 (0xC000 + off)) s = .ok () (trapEntered ret status bank off s) := by
  have hnext : BitVec.ofNat 16 (0xC000 + off) + 1 = BitVec.ofNat 16 (0xC000 + (off + 1)) :=
    (BitVec.ofNat_add ..).symm
  have hlow := read8_prg (trapPushed ret status s) (busTarget_vector (off := off) (by omega)) hb
  have hhigh := read8_prg ((trapPushed ret status s).logged (.read (BitVec.ofNat 16 (0xC000 + off)) (bank.get off)))
    (busTarget_vector hoff) hb
  rw [enterTrap_eq_readWord, readWord, readPair, hnext, hlow, Ran.andThen_ok, hhigh, Ran.andThen_ok, ← word_eq_wordOf]
  rfl

theorem enterTrap_of_missing (ret : Word) (status : Byte) {s : State} (hoff : off < 0x4000)
    (hb : s.mappedBank 1 = none) :
    enterTrap ret status (BitVec.ofNat 16 (0xC000 + off)) s =
      .stop (.missingPrgBank (BitVec.ofNat 16 (0xC000 + off))) (trapPushed ret status s) := by
  rw [enterTrap_eq_readWord, readWord, readPair,
    read8_prg_of_none (trapPushed ret status s) (busTarget_vector hoff) hb]
  rfl

end

/-- The vector of BRK lies at offset 0x3FFE of the bank at 0xC000 (47_control_flow.md R191). -/
theorem irqVector_eq_ofNat : Config.irqVector = BitVec.ofNat 16 (0xC000 + 0x3FFE) := rfl

theorem exec_brk_of_bank {bank : Memory} {s : State} (hb : s.mappedBank 1 = some bank) :
    exec .brk s = .next (trapEntered (s.pc + 1) (s.p.toByte ||| 0x30) bank 0x3FFE s) := by
  rw [exec, execBrk, irqVector_eq_ofNat, enterTrap_of_bank _ _ (by decide) hb]
  rfl

theorem exec_brk_of_missing {s : State} (hb : s.mappedBank 1 = none) :
    exec .brk s = missingBank 0xFFFE (trapPushed (s.pc + 1) (s.p.toByte ||| 0x30) s) := by
  rw [exec, execBrk, irqVector_eq_ofNat, enterTrap_of_missing _ _ (by decide) hb]
  rfl

/-! ### What a return pulls after its entry pushed -/

theorem pullByte_withPc (s : State) (pc : Word) (k : Byte) : pullByte { s with pc := pc } k = pullByte s k := rfl

theorem pullByte_pushed_one (v : Byte) (s : State) : pullByte (pushed v s) 1 = v := by
  have hsp : (pushed v s).sp + 1 = s.sp := BitVec.sub_add_cancel ..
  rw [pullByte, hsp]
  exact Memory.get_set_same _ _ _

/-- A push moves every other stack byte one pull further away. -/
theorem pullByte_pushed_succ (v : Byte) (s : State) {k : Byte} (hk : k ≠ 0) :
    pullByte (pushed v s) (k + 1) = pullByte s k := by
  have hsp : (pushed v s).sp + (k + 1) = s.sp + k := by
    change s.sp - 1 + (k + 1) = s.sp + k
    bv_omega
  have hcell : stackCell (s.sp + k) ≠ stackCell s.sp := by
    simp only [stackCell]
    bv_omega
  rw [pullByte, hsp]
  exact Memory.get_set_other _ _ hcell

theorem word_pullByte_pushed (w : Word) (s : State) :
    word (pullByte (pushed (lowOf w) (pushed (highOf w) s)) 2)
      (pullByte (pushed (lowOf w) (pushed (highOf w) s)) 1) = w := by
  obtain ⟨t, hpull, -⟩ := pull16_push16 w s
  rw [push16_eq_pushed, pull16_eq_pullByte] at hpull
  injection hpull

/-- The pushed bits 4 and 5 are not pulled, and the pulled bit 2 undoes P.I (46_stack.md R184). -/
theorem pulledStatus_pushedByBrk (p : Status) : pulledStatus { p with i := true } (p.toByte ||| 0x30) = p := by
  have hbyte : Status.ofByte (p.toByte ||| 0x30) = { p with b := true, u := true } := by
    rw [← Status.ofByte_toByte { p with b := true, u := true }]
    exact congrArg Status.ofByte (pushedByBrk_eq p)
  exact congrArg (fun q : Status => { q with b := p.b, u := p.u }) hbyte

section
variable (ret : Word) (status : Byte) (bank : Memory) (off : Nat) (s : State)

theorem trapEntered_sp : (trapEntered ret status bank off s).sp = s.sp - 3 := by
  change s.sp - 1 - 1 - 1 = s.sp - 3
  bv_omega

theorem pullByte_trapEntered_status : pullByte (trapEntered ret status bank off s) 1 = status :=
  pullByte_pushed_one ..

theorem word_pullByte_trapEntered :
    word (pullByte (trapEntered ret status bank off s) 3) (pullByte (trapEntered ret status bank off s) 2) = ret := by
  have hhigh := pullByte_pushed_succ status (pushed (lowOf ret) (pushed (highOf ret) s)) (k := 2) (by decide)
  have hlow := pullByte_pushed_succ status (pushed (lowOf ret) (pushed (highOf ret) s)) (k := 1) (by decide)
  exact (congrArg₂ word hhigh hlow).trans (word_pullByte_pushed ret s)

end

/-! ### The obligations -/

/-- Settles O36: JMP indirect reads its pointer by two bus reads, each of which may find no bank. -/
theorem jmpResults : Obligations.JmpResults := by
  intro s addr
  have hbytes := addressBytes_eq_lowOf_highOf addr
  refine ⟨⟨rfl, congrArg (List.cons 0x4C) hbytes, rfl⟩, ⟨rfl, congrArg (List.cons 0x6C) hbytes, rfl⟩, rfl,
    fun hlo => ?lowMissing, fun lo hlo => ⟨fun hi hhi => ?completes, fun hhi => ?highMissing⟩⟩
  case lowMissing =>
    rw [exec_jmpInd, readPair_of_low_missing hlo]
    rfl
  case completes =>
    rw [exec_jmpInd, readPair_of_some hlo hhi, Ran.finish_ok, ← word_eq_wordOf]
    rfl
  case highMissing =>
    rw [exec_jmpInd, readPair_of_high_missing hlo hhi]
    rfl

/-- Settles O37: PC is past the operand, so `PC - 1` is pushed. -/
theorem jsrResult : Obligations.JsrResult := fun s addr =>
  ⟨⟨rfl, congrArg (List.cons 0x20) (addressBytes_eq_lowOf_highOf addr), rfl⟩, exec_jsr addr s⟩

/-- Settles O38: one 16-bit pull. -/
theorem rtsResult : Obligations.RtsResult := ⟨⟨rfl, rfl, rfl⟩, exec_rts⟩

/-- Settles O39: BRK is a trap entry through the vector at 0xFFFE. -/
theorem brkResult : Obligations.BrkResult :=
  ⟨⟨rfl, rfl, rfl⟩, fun _ => ⟨fun _ => exec_brk_of_bank, exec_brk_of_missing⟩⟩

/-- Settles O40: the common trap return. -/
theorem rtiResult : Obligations.RtiResult := ⟨⟨rfl, rfl, rfl⟩, exec_rti⟩

/-- Settles O52: RTS pulls the word JSR pushed, one below PC. -/
theorem jsrThenRts : Obligations.JsrThenRts := by
  refine fun s addr => ⟨_, exec_jsr addr s, fun pc => ⟨_, exec_rts _, ?pc, ?sp⟩⟩
  case pc =>
    simp only [pullByte_withPc, word_pullByte_pushed]
    exact BitVec.sub_add_cancel ..
  case sp =>
    change s.sp - 1 - 1 + 2 = s.sp
    bv_omega

/-- Settles O53: RTI pulls the status and the word that BRK's trap entry pushed. -/
theorem brkThenRti : Obligations.BrkThenRti := by
  refine fun s bank hb => ⟨_, exec_brk_of_bank hb, rfl, fun pc => ⟨_, exec_rti _, ?pc, ?sp, ?p⟩⟩
  case pc => simp only [pullByte_withPc, word_pullByte_trapEntered]
  case sp =>
    simp only [trapEntered_sp]
    exact BitVec.sub_add_cancel ..
  case p =>
    simp only [pullByte_withPc, pullByte_trapEntered_status]
    exact pulledStatus_pushedByBrk s.p

end Sys2Proof.Machine
end

section
/-! PROOF. The flag instructions and NOP, and the base cycle counts (48_flags_misc.md R195 to R202;
70_reset_and_hazards.md R240). -/

namespace Sys2Proof.Machine

open Sys2Proof.Spec

/-- Settles O41: each is one flag update, NOP none. -/
theorem flagInstructionResults : Obligations.FlagInstructionResults := by
  refine ⟨?clc, ?sec, ?cli, ?sei, ?cld, ?sed, ?clv, ?nop⟩
  all_goals exact ⟨⟨rfl, rfl, rfl⟩, fun _ => rfl⟩

/-- Settles O6: the list gives the count of every row of the encoder's table. -/
theorem baseCycleCounts : Obligations.BaseCycleCounts := by
  intro i
  cases i
  all_goals rfl

end Sys2Proof.Machine
end

section
/-! PROOF. How a step can end, and the interrupt sequence (60_exceptions.md R206, R208, R215 to R218). -/

namespace Sys2Proof.Machine

open Sys2Proof.Spec

/-! ### The undefined opcode (R206) -/

section
variable {s : State} {op : Byte}

/-- PC goes back to the opcode's address, so the read of the opcode is all that is left of the fetch. -/
theorem fetchInstr_of_undefined (hread : s.busRead s.pc = some op) (hop : decodeOpcode op = none) :
    fetchInstr s = .stop (.unimplementedOpcode op s.pc) (afterRead s s.pc op) := by
  simp only [fetchInstr, fetchByte_of_some hread, Ran.andThen_ok, hop]
  rfl

/-- The end of a step on an undefined opcode. -/
def undefinedOpcodeFault (op : Byte) (s : State) : Outcome :=
  .fault (.unimplementedOpcode op s.pc
    { s with fault := some (.unimplementedOpcode op s.pc), log := readEvent s.pc op :: s.log })

theorem runInstr_of_undefined (hread : s.busRead s.pc = some op) (hop : decodeOpcode op = none) :
    runInstr exec s = undefinedOpcodeFault op s := by
  rw [runInstr, fetchInstr_of_undefined hread hop]
  rfl

end

/-! ### A fetch of a defined opcode stops on a missing bank only -/

namespace StopsOnMissingBank

variable {s : State}

theorem fetchByte_andThen {α : Type} {k : Byte → State → Ran α}
    (hk : ∀ b t, fetchByte s = .ok b t → StopsOnMissingBank t (k b t)) :
    StopsOnMissingBank s ((fetchByte s).andThen k) := by
  cases hread : s.busRead s.pc with
  | none =>
    rw [fetchByte_of_none hread]
    rintro c t ⟨⟩
    exact ⟨.refl _ _, s.pc, rfl, hread⟩
  | some b =>
    have hfetch := fetchByte_of_some hread
    rw [hfetch]
    exact afterFrame (.ofOnlyFetches (fetchByte_onlyFetches hfetch) rfl) (hk _ _ hfetch)

theorem fetchInstr (hdef : ∀ op, s.busRead s.pc = some op → decodeOpcode op ≠ none) :
    StopsOnMissingBank s (Machine.fetchInstr s) := by
  refine fetchByte_andThen fun op s1 hfetch => ?_
  cases hop : decodeOpcode op with
  | none => exact absurd hop (hdef op (fetchByte_eq_ok hfetch).1)
  | some form =>
    cases form with
    | complete i => exact ok i s1
    | byte f => exact fetchByte_andThen fun b s2 _ => ok (f b) s2
    | displacement f => exact fetchByte_andThen fun b s2 _ => ok (f b.toInt) s2
    | address f =>
      exact fetchByte_andThen fun lo s2 _ => fetchByte_andThen fun hi s3 _ => ok (f (wordOf hi lo)) s3

end StopsOnMissingBank

/-! ### The ends of a step -/

/-- Everything a step from `s` can answer. -/
inductive StepAnswer (s : State) : Outcome → Prop
  | completes (t : State) : StepAnswer s (.next t)
  | missesBank (addr : Word) (t : State) : StepAnswer s (missingBank addr t)
  | undefinedOpcode (op : Byte) (hread : s.busRead s.pc = some op) (hop : decodeOpcode op = none) :
      StepAnswer s (undefinedOpcodeFault op s)
  | alreadyFaulted (c : FaultCause) (hfault : s.fault = some c) : StepAnswer s (.fault (.alreadyFaulted c))

theorem StepAnswer.of_completesOrMissesBank {s t : State} {o : Outcome} (h : CompletesOrMissesBank t o) :
    StepAnswer s o := by
  obtain ⟨u, rfl⟩ | ⟨addr, u, rfl, -, -⟩ := h
  · exact completes u
  · exact missesBank addr u

theorem completesOrMissesBank_returnCycles {s : State} {o : Outcome} (n : Nat) (h : CompletesOrMissesBank s o) :
    CompletesOrMissesBank s (returnCycles n o) := by
  obtain ⟨u, rfl⟩ | ⟨addr, u, rfl, hn, hframe⟩ := h
  · exact .inl ⟨_, rfl⟩
  · exact .inr ⟨addr, u, rfl, hn, hframe⟩

theorem completesOrMissesBank_interruptSequence (s : State) :
    CompletesOrMissesBank (s.setNmi false) (interruptSequence s) :=
  completesOrMissesBank_finish _ (.enterTrap _ _ _ _)

theorem runInstr_answer (s : State) : StepAnswer s (runInstr exec s) := by
  by_cases hundef : ∃ op, s.busRead s.pc = some op ∧ decodeOpcode op = none
  · obtain ⟨op, hread, hop⟩ := hundef
    rw [runInstr_of_undefined hread hop]
    exact .undefinedOpcode op hread hop
  · have hstop := StopsOnMissingBank.fetchInstr fun op hread hop => hundef ⟨op, hread, hop⟩
    rw [runInstr]
    cases hfetch : fetchInstr s with
    | ok i t =>
      have hexec := completesOrMissesBank_returnCycles i.cycles (exec_completesOrMissesBank i t)
      exact .of_completesOrMissesBank hexec
    | stop c t =>
      obtain ⟨-, addr, rfl, -⟩ := hstop c t hfetch
      exact .missesBank addr t

theorem step_answer (s : State) : StepAnswer s (step s) := by
  cases hfault : s.fault with
  | some c =>
    rw [faultedMachineTakesNoStep s c hfault]
    exact .alreadyFaulted c hfault
  | none =>
    cases hdue : s.interruptDue with
    | true =>
      rw [step_of_interruptDue hfault hdue]
      exact .of_completesOrMissesBank (completesOrMissesBank_interruptSequence s)
    | false =>
      rw [step_of_not_interruptDue hfault hdue]
      exact runInstr_answer s

/-! ### The interrupt sequence (R215 to R218) -/

section
variable {s : State}

theorem interruptDue_of_pending (hext : s.params.irqNmi = true)
    (h : s.nmiPending = true ∨ (s.irqLine = true ∧ s.p.i = false)) : s.interruptDue = true := by
  simpa [State.interruptDue, hext] using h

theorem interruptDue_eq_false
    (h : s.params.irqNmi = false ∨ (s.nmiPending = false ∧ (s.irqLine = false ∨ s.p.i = true))) :
    s.interruptDue = false := by
  obtain hext | ⟨hnmi, hirq | hmask⟩ := h
  · simp [State.interruptDue, hext]
  · simp [State.interruptDue, hnmi, hirq]
  · simp [State.interruptDue, hnmi, hmask]

/-- Both vectors lie in the bank at 0xC000 (R217). -/
theorem interruptVector_eq_ofNat (s : State) : (if s.nmiPending then Config.nmiVector else Config.irqVector) =
    BitVec.ofNat 16 (0xC000 + interruptVectorOffset s) := by
  cases hnmi : s.nmiPending <;> simp only [interruptVectorOffset, hnmi] <;> rfl

theorem interruptVectorOffset_lt (s : State) : interruptVectorOffset s + 1 < 0x4000 := by
  rw [interruptVectorOffset]
  split <;> decide

theorem interruptSequence_of_bank {bank : Memory} (hb : s.mappedBank 1 = some bank) :
    interruptSequence s =
      .next { trapEntered s.pc ((s.p.toByte &&& 0xEF) ||| 0x20) bank (interruptVectorOffset s) s with
        nmiPending := false, stepCycles := 7 } := by
  have henter := enterTrap_of_bank s.pc s.p.pushedByInterrupt (s := s.setNmi false) (interruptVectorOffset_lt s) hb
  rw [interruptSequence, interruptVector_eq_ofNat, henter]
  rfl

theorem interruptSequence_of_missing (hb : s.mappedBank 1 = none) :
    interruptSequence s = missingBank (BitVec.ofNat 16 (0xC000 + interruptVectorOffset s))
      { trapPushed s.pc ((s.p.toByte &&& 0xEF) ||| 0x20) s with nmiPending := false } := by
  have henter := enterTrap_of_missing s.pc s.p.pushedByInterrupt (s := s.setNmi false)
    (Nat.lt_of_succ_lt (interruptVectorOffset_lt s)) hb
  rw [interruptSequence, interruptVector_eq_ofNat, henter]
  rfl

end

/-! ### The obligations -/

/-- Settles O8: of the ends of a step, only an undefined opcode's is this fault. -/
theorem undefinedOpcodeFaults : Obligations.UndefinedOpcodeFaults := by
  refine ⟨fun s op hfault hdue hread hop => ?faults, fun s t op pc h => ?conversely⟩
  case faults =>
    rw [step_of_not_interruptDue hfault hdue]
    exact runInstr_of_undefined hread (mem_undefinedOpcodes_iff.mp hop)
  case conversely =>
    have hanswer := step_answer s
    rw [h] at hanswer
    cases hanswer with
    | undefinedOpcode _ hread hop => exact ⟨mem_undefinedOpcodes_iff.mpr hop, rfl, hread⟩

/-- Settles O11: no end of a step is a refusal or the fault for an instruction without a meaning. -/
theorem everyDecodedInstructionHasAMeaning : Obligations.EveryDecodedInstructionHasAMeaning := by
  intro s
  refine ⟨fun r h => ?refused, fun op pc t h => ?noSemantics⟩
  all_goals
    have hanswer := step_answer s
    rw [h] at hanswer
    cases hanswer

/-- Settles O51: a due interrupt is a trap entry through its vector, with the NMI cleared before the pushes. -/
theorem interruptSequenceResult : Obligations.InterruptSequenceResult := by
  refine fun s hfault => ⟨fun hext hpending => ?taken, fun h => ?notDue⟩
  case taken =>
    rw [step_of_interruptDue hfault (interruptDue_of_pending hext hpending)]
    exact ⟨fun _ => interruptSequence_of_bank, interruptSequence_of_missing⟩
  case notDue => exact step_of_not_interruptDue hfault (interruptDue_eq_false h)

end Sys2Proof.Machine
end
